-- ==== Sys2Proof/Word.lean ====
section
/-! DEFINITION. The plain words of the supervisory and crane links and of the records. -/

namespace Sys2Proof

/-- One byte of a frame (10.1, 11.1). -/
abbrev Byte := BitVec 8

/-- A weight or load in whole kilograms (0.5 (1)(d)); signed, because net loads may lie below zero (R59). -/
abbrev Kg := Int

/-- A runway or trolley position in centimetres (0.5 (1)(a), (b)); signed, because claims are reckoned before they
are clipped (R109). -/
abbrev Cm := Int

/-- The 12-character identity of a coil, as its ASCII bytes (R18, R207). -/
abbrev MillId := List Byte

/-- The 16-character identity of a truck, as its ASCII bytes (R148, R207). -/
abbrev TruckId := List Byte

end Sys2Proof
end

