-- ==== Sys2Proof/Syntax.lean ====
section
/-! DEFINITION. The commands the coordinator takes: one constructor of `Instr` per row of spec/opcode_table.json, with the
names and the small records that commands carry. -/

namespace Sys2Proof

/-- Cranes 1 to 4, numbered from west to east (0.5 (3)). -/
inductive CraneId
  | c1 | c2 | c3 | c4
deriving DecidableEq, Repr

/-- Truck bays 1 and 2 (R7). -/
inductive BayId
  | b1 | b2
deriving DecidableEq, Repr

/-- The two lines of a bay (R151). -/
inductive Line
  | inPosition | safe
deriving DecidableEq, Repr

/-- Hook state of a status telegram (R85), in the order of R209. -/
inductive Hook
  | opened | gripped
deriving DecidableEq, Repr

/-- Hoist state of a status telegram (R85), in the order of R209. -/
inductive Hoist
  | up | mid | down
deriving DecidableEq, Repr

/-- Order state of a status telegram (R85), in the order of R209. -/
inductive OrderState
  | idle | running | done | failed | refused
deriving DecidableEq, Repr

/-- The contents of a crane status telegram (R85, R209). -/
structure Status where
  /-- last order number, 0 to 255 -/
  order : Nat
  ostate : OrderState
  x : Nat
  y : Nat
  hook : Hook
  hoist : Hoist
  still : Bool
  /-- raw counts of hook cells 1 and 2 -/
  c1 : Int
  c2 : Int
  /-- drive fault code, 0 for none -/
  drive : Nat
deriving DecidableEq, Repr

/-- Whose weighing session a timer belongs to: each crane and each bay has at most one (R64). -/
inductive Owner
  | crane (c : CraneId)
  | bay (b : BayId)
deriving DecidableEq, Repr

/-- Why a crane status is discarded (R85, R209). -/
inductive DiscardReason
  | badCrc | badLength | unknownType | badEnum | noEntry
deriving DecidableEq, Repr

/-- The commands, in the order of spec/opcode_table.json. A request telegram carries the sequence byte and the body bytes of
its frame (10.1); its code is the constructor's (10.3, `Machine.codeOf`). -/
inductive Instr
  /-- the supply comes on (R205) -/
  | powerOn
  /-- the store check ends; `intact`: the integrity check of the nonvolatile store passed (R16) -/
  | storeCheckEnd (intact : Bool)
  | identify (seq : Byte) (body : List Byte)
  | status (seq : Byte) (body : List Byte)
  | cursorSet (seq : Byte) (body : List Byte)
  | readNext (seq : Byte) (body : List Byte)
  | noticeFetch (seq : Byte) (body : List Byte)
  | layoutBegin (seq : Byte) (body : List Byte)
  | layoutRunway (seq : Byte) (body : List Byte)
  | layoutCrane (seq : Byte) (body : List Byte)
  | layoutRow (seq : Byte) (body : List Byte)
  | layoutIntake (seq : Byte) (body : List Byte)
  | layoutBay (seq : Byte) (body : List Byte)
  | layoutTuning (seq : Byte) (body : List Byte)
  | layoutCommit (seq : Byte) (body : List Byte)
  /-- the store write ends with the result ok or failed (R14) -/
  | storeWriteEnd (ok : Bool)
  | runStart (seq : Byte) (body : List Byte)
  | quiesce (seq : Byte) (body : List Byte)
  | enterSetup (seq : Byte) (body : List Byte)
  | restart (seq : Byte) (body : List Byte)
  | coilRegister (seq : Byte) (body : List Byte)
  | coilRemove (seq : Byte) (body : List Byte)
  | coilAnnounce (seq : Byte) (body : List Byte)
  | moveRequest (seq : Byte) (body : List Byte)
  | moveHold (seq : Byte) (body : List Byte)
  | moveResume (seq : Byte) (body : List Byte)
  | moveCancel (seq : Byte) (body : List Byte)
  | moveRedirect (seq : Byte) (body : List Byte)
  | rowProtect (seq : Byte) (body : List Byte)
  | fenceAdd (seq : Byte) (body : List Byte)
  | fenceRemove (seq : Byte) (body : List Byte)
  | craneReinstate (seq : Byte) (body : List Byte)
  | faultClear (seq : Byte) (body : List Byte)
  | truckCheckin (seq : Byte) (body : List Byte)
  | loadPlan (seq : Byte) (body : List Byte)
  | truckRelease (seq : Byte) (body : List Byte)
  | truckAbort (seq : Byte) (body : List Byte)
  | scaleZero (seq : Byte) (body : List Byte)
  /-- a good frame whose code is no request code (R192 check 1) -/
  | unknownCodeRequest (code : Byte) (seq : Byte) (body : List Byte)
  /-- 50 ms pass after the bytes `got` of a frame, start byte included (R190 (1)) -/
  | frameBrokenOff (got : List Byte)
  /-- the whole frame `got` has a bad CRC (R190 (2)) -/
  | frameBadCrc (got : List Byte)
  /-- the length byte of a frame lies above 250 (R190) -/
  | frameLengthOver (length : Byte)
  /-- a good request completed while 4 replies are held (R191) -/
  | requestDiscardedUnhandled (code : Byte) (seq : Byte) (body : List Byte)
  /-- the reply being sent has left (R191) -/
  | replySent
  | yardClockSecond
  | minuteTick
  | craneStatus (c : CraneId) (st : Status)
  /-- the bytes `got` of a whole frame arrive on the crane's link and give no status to take (R85, R209) -/
  | craneStatusDiscarded (c : CraneId) (got : List Byte)
  | craneFrameBrokenOff (c : CraneId)
  /-- floor(3 T_r / 4) ms have passed since the last status of the crane (R93 (1)) -/
  | reportLate (c : CraneId)
  /-- T_r ms have passed since the last status of the crane (R93 (2)) -/
  | reportLost (c : CraneId)
  /-- the claim-wait timer of the crane's waiting request expires (R114) -/
  | claimWaitExpiry (c : CraneId)
  /-- the bridge converter completes a scan of the bay (R57) -/
  | bayScan (b : BayId) (c1 c2 c3 c4 : Int)
  | settleExpiry (o : Owner)
  | stabilityTimeout (o : Owner)
  /-- the line takes the level `asserted` (R151) -/
  | bayLineChange (b : BayId) (l : Line) (asserted : Bool)
  | lossOfSupply
deriving DecidableEq, Repr

end Sys2Proof
end

