-- ==== Sys2Proof/Decode.lean ====
section
/-! DEFINITION. Which command a word spells: spec/opcode_table.json gives no row any bits, so no word spells a command. -/

namespace Sys2Proof

/-- The command of a word: none, since no row of the table has bits. Commands enter the queue as terms of `Instr`. -/
def decodeTableWord (_nbits _w : Nat) : Option Instr := none

end Sys2Proof
end

