-- ==== Sys2Proof/Config.lean ====
section
/-! DEFINITION. What the manual leaves open: free values. None of them has a body, so no proof can see what it is. -/

namespace Sys2Proof.Config

/-- The detail byte of a refusal for which no rule states one: a function of the rule that refuses and of the number of the
event. DESIGN CHOICE, notes/assumptions/5.md. -/
opaque openDetail (rule : Nat) (event : Nat) : Byte

/-- The detail of a fault part for which no rule states one: a function of the rule that raises and of the number of the
event. DESIGN CHOICE, notes/assumptions/5.md. -/
opaque openFaultDetail (rule : Nat) (event : Nat) : Nat

/-- The runway position of a crane (1 to 4) that has never reported, where a rule asks for its last reported x.
DESIGN CHOICE, notes/assumptions/8.md. -/
opaque unreportedX (crane : Nat) : Cm

/-- The trolley position of a crane (1 to 4) that has never reported. DESIGN CHOICE, notes/assumptions/8.md. -/
opaque unreportedY (crane : Nat) : Cm

end Sys2Proof.Config
end

