-- ==== Sys2Proof/Machine/State.lean ====
section
/-! DEFINITION. The state of the coordinator as plain data, block by block (0.3), and its value right after the supply has
come on. -/

namespace Sys2Proof.Machine

/-! ### Things numbered 1 to 4 and 1 to 2 -/

/-- One value for each crane. -/
structure PerCrane (α : Type) where
  c1 : α
  c2 : α
  c3 : α
  c4 : α
deriving DecidableEq, Repr

/-- One value for each bay. -/
structure PerBay (α : Type) where
  b1 : α
  b2 : α
deriving DecidableEq, Repr

/-- The value of a crane. -/
def PerCrane.get {α : Type} (p : PerCrane α) : CraneId → α
  | .c1 => p.c1
  | .c2 => p.c2
  | .c3 => p.c3
  | .c4 => p.c4

/-- The same values but for one crane. -/
def PerCrane.set {α : Type} (p : PerCrane α) : CraneId → α → PerCrane α
  | .c1, v => { p with c1 := v }
  | .c2, v => { p with c2 := v }
  | .c3, v => { p with c3 := v }
  | .c4, v => { p with c4 := v }

/-- The same value for each crane. -/
def PerCrane.all {α : Type} (v : α) : PerCrane α := ⟨v, v, v, v⟩

/-- A function applied to each crane's value. -/
def PerCrane.map {α β : Type} (p : PerCrane α) (f : CraneId → α → β) : PerCrane β :=
  ⟨f .c1 p.c1, f .c2 p.c2, f .c3 p.c3, f .c4 p.c4⟩

/-- The value of a bay. -/
def PerBay.get {α : Type} (p : PerBay α) : BayId → α
  | .b1 => p.b1
  | .b2 => p.b2

/-- The same values but for one bay. -/
def PerBay.set {α : Type} (p : PerBay α) : BayId → α → PerBay α
  | .b1, v => { p with b1 := v }
  | .b2, v => { p with b2 := v }

/-- The same value for each bay. -/
def PerBay.all {α : Type} (v : α) : PerBay α := ⟨v, v⟩

/-- A function applied to each bay's value. -/
def PerBay.map {α β : Type} (p : PerBay α) (f : BayId → α → β) : PerBay β := ⟨f .b1 p.b1, f .b2 p.b2⟩

/-- A table of entries by number: the keys strictly rising, an absent key being an empty entry. -/
abbrev Table (α : Type) := List (Nat × α)

/-! ### Places -/

/-- Tier of a row (R4). -/
inductive Tier
  | bottom | top
deriving DecidableEq, Repr

/-- A slot: row, tier, position (0.5 (4)). -/
structure SlotAddr where
  row : Nat
  tier : Tier
  pos : Nat
deriving DecidableEq, Repr

/-- The two intake saddles (R6). -/
inductive Saddle
  | ia | ib
deriving DecidableEq, Repr

/-- The one place where a coil lies (R19). -/
inductive Place
  | slot (a : SlotAddr)
  | saddle (x : Saddle)
  | hook (c : CraneId)
  | cradle (b : BayId) (k : Nat)
deriving DecidableEq, Repr

/-- The destination of a move (R96). -/
inductive Dest
  | slot (a : SlotAddr)
  | cradle (b : BayId) (k : Nat)
  | runway (x : Nat)
  /-- AUTO while unresolved (R54) -/
  | auto
deriving DecidableEq, Repr

/-! ### Layout Store (chapter 1) -/

/-- Length and trolley range (R2). -/
structure RunwaySize where
  length : Nat
  range : Nat
deriving DecidableEq, Repr

/-- A crane entry (R3). -/
structure CraneEntry where
  h : Nat
  swl : Nat
  tare : Nat
  z1 : Int
  z2 : Int
  s1 : Nat
  s2 : Nat
deriving DecidableEq, Repr

/-- A row entry (R4). -/
structure RowEntry where
  x : Nat
  y0 : Nat
  pitch : Nat
  b : Nat
  odMin : Nat
  odMax : Nat
  maxWidth : Nat
deriving DecidableEq, Repr

/-- The intake part (R6). -/
structure Intake where
  x : Nat
  yA : Nat
  yB : Nat
deriving DecidableEq, Repr

/-- A bay entry (R7). -/
structure BayEntry where
  bx0 : Nat
  bx1 : Nat
  xk : Nat
  yt : Nat
  capacity : Nat
  z1 : Int
  z2 : Int
  z3 : Int
  z4 : Int
  s1 : Nat
  s2 : Nat
  s3 : Nat
  s4 : Nat
deriving DecidableEq, Repr

/-- The eight tuning items (R8), with their defaults. -/
structure Tuning where
  reportTimeout : Nat := 500
  settle : Nat := 800
  window : Nat := 8
  band : Nat := 40
  stability : Nat := 6
  emptyHook : Nat := 500
  claimWait : Nat := 60
  deviation : Nat := 5
deriving DecidableEq, Repr

/-- A layout image (R1); the default is the empty image. -/
structure Image where
  size : Option RunwaySize := none
  margin : Nat := 200
  tolerance : Nat := 50
  sMin : Nat := 100
  cranes : PerCrane (Option CraneEntry) := .all none
  rows : Table RowEntry := []
  intake : Option Intake := none
  bays : PerBay (Option BayEntry) := .all none
  tuning : Tuning := {}
deriving DecidableEq, Repr

/-- The nonvolatile store: the image and edition last written, and whether that write completed (R14, R16, R199). -/
structure NvStore where
  image : Image := {}
  edition : Nat := 0
  complete : Bool := false
deriving DecidableEq, Repr

/-- The Layout Store (R1, R13, R199). -/
structure Layout where
  nv : NvStore := {}
  committed : Image := {}
  edition : Nat := 0
  valid : Bool := false
  working : Option Image := none
  /-- the copy a running store write writes; its presence is the store busy flag (R13) -/
  writing : Option Image := none
deriving DecidableEq, Repr

/-! ### Yard Map and Coil Table (chapters 2 and 3) -/

/-- The state of a slot that is not FREE (R35). -/
inductive SlotState
  | occupied (coil : MillId)
  | reservedIn (move : Nat)
  | reservedOut (move : Nat) (coil : MillId)
deriving DecidableEq, Repr

/-- An entry of the slot table that is not FREE. -/
structure SlotEntry where
  addr : SlotAddr
  state : SlotState
deriving DecidableEq, Repr

/-- The Yard Map: the slots that are not FREE by address, the rows whose protect flag is set, the saddles (R35, R36, R45). -/
structure Yard where
  slots : Table SlotEntry := []
  protect : List Nat := []
  ia : Option MillId := none
  ib : Option MillId := none
deriving DecidableEq, Repr

/-- Thermal state (R18). -/
inductive Thermal
  | hot (remaining : Nat)
  | cold
deriving DecidableEq, Repr

/-- The source of a measured weight (R18). -/
inductive WeighSource
  | crane (c : CraneId)
  | bay (b : BayId)
deriving DecidableEq, Repr

/-- A measured weight (R18). -/
structure Measured where
  weight : Kg
  source : WeighSource
  time : Nat
deriving DecidableEq, Repr

/-- A coil record (R18). -/
structure Coil where
  id : MillId
  loc : Place
  declared : Nat
  measured : Option Measured
  od : Nat
  width : Nat
  thermal : Thermal
  active : Option Nat
  visit : Option BayId
deriving DecidableEq, Repr

/-! ### Faults (chapter 9) -/

/-- The subject of a fault (R176), in the order of R183. -/
inductive Subject
  | move (n : Nat)
  | crane (c : CraneId)
  | runway
  | coordinator
deriving DecidableEq, Repr

/-- The fault as first raised, kept by an escalated fault part (R176). -/
structure Origin where
  code : Nat
  detail : Nat
  subject : Subject
deriving DecidableEq, Repr

/-- A set of hold causes (R96). -/
structure Causes where
  link : Bool := false
  crane : Bool := false
  runway : Bool := false
deriving DecidableEq, Repr

/-- A fault part (R176). `cls` is the class, 0 to 3; `held` are the held causes, of a move's part only. -/
structure FaultPart where
  cls : Nat
  code : Nat
  time : Nat
  detail : Nat
  origin : Option Origin := none
  held : Causes := {}
deriving DecidableEq, Repr

/-! ### Weighing Unit (chapter 4) -/

/-- Kind of a weighing session (R64). -/
inductive SessionKind
  | hook | tare | setdown | recheck | gross | zero
deriving DecidableEq, Repr

/-- Stage of a weighing session (R64). -/
inductive Stage
  | settle | window | waitReady
deriving DecidableEq, Repr

/-- A weighing session (R64); `entry` is the plan entry a SETDOWN names (R166). -/
structure Session where
  kind : SessionKind
  move : Option Nat := none
  entry : Option Nat := none
  stage : Stage := .settle
  window : List Kg := []
  started : Nat
deriving DecidableEq, Repr

/-- How a session ends (R64). -/
inductive ResultKind
  | stable | unstable | failed
deriving DecidableEq, Repr

/-- The load of the last sample with its marks (R80). -/
structure Sample where
  load : Kg
  saturated : Bool
  overRange : Bool
deriving DecidableEq, Repr

/-- What the Weighing Unit holds for a crane (R61, R62, R64, R80). -/
structure HookScale where
  session : Option Session := none
  overload : Bool := false
  signal : Bool := false
  unexpected : Bool := false
  last : Option Sample := none
deriving DecidableEq, Repr

/-- Scale state of a bay (R63), in the order of its table. -/
inductive ScaleState
  | warmup | saturated | over | ready | none
deriving DecidableEq, Repr

/-- What the Weighing Unit holds for a bay (R57, R63, R64, R78, R80). -/
structure BayScale where
  session : Option Session := .none
  warm : Nat := 0
  state : ScaleState := .none
  trim : Kg := 0
  last : Option Sample := .none
deriving DecidableEq, Repr

/-- The Weighing Unit. -/
structure Weighing where
  cranes : PerCrane HookScale := .all {}
  bays : PerBay BayScale := .all {}
deriving DecidableEq, Repr

/-! ### Crane Controllers (chapter 5) -/

/-- Service state of a crane (R81). -/
inductive Service
  | inService | yielding | out
deriving DecidableEq, Repr

/-- Kind of a crane order (R83), in the order of R209. -/
inductive OrderKind
  | travel | lowerGrip | hoist | lowerSet | abortLower | stop
deriving DecidableEq, Repr

/-- The owner of an order, to which its completion is handed (R89). -/
inductive OrderUse
  | phase (move : Nat)
  | yieldTravel
  | halt
deriving DecidableEq, Repr

/-- The order that an outstanding STOP or ABORT_LOWER replaced (R84, R91). -/
structure Replaced where
  num : Nat
  kind : OrderKind
  use : OrderUse
deriving DecidableEq, Repr

/-- An outstanding order (R84). `named`: some status has named it; `tongs`: the hook state an ABORT_LOWER returns to (R83); `former`: since
the order was sent, its move has entered a phase with an order of its own, which is sent when this one is reported (R99); `lineDrop`: an
ABORT_LOWER sent at a line drop (R105, R142). -/
structure Order where
  num : Nat
  kind : OrderKind
  x : Cm := 0
  y : Cm := 0
  running : Bool := false
  use : OrderUse
  named : Bool := false
  replaced : Option Replaced := none
  tongs : Option Hook := none
  former : Bool := false
  lineDrop : Bool := false
deriving DecidableEq, Repr

/-- A crane record (R81). `fresh`: no T_r has run out since the last status, whether its timer runs or RESTART has stopped it (DESIGN CHOICE,
notes/assumptions/3.md); `late`: REPORT_LATE was given in this gap (R93). -/
structure CraneRec where
  service : Service := .out
  seen : Bool := false
  last : Option (Status × Nat) := none
  timer : Bool := false
  fresh : Bool := false
  late : Bool := false
  counter : Nat := 0
  order : Option Order := none
  current : Option Nat := none
  park : List Nat := []
  putDownFirst : Option MillId := none
  claimLatch : Bool := false
  drive : Nat := 0
  fault : Option FaultPart := none
deriving DecidableEq, Repr

/-- An order telegram put on a crane link (R209). -/
structure SentOrder where
  crane : CraneId
  num : Nat
  kind : OrderKind
  x : Cm
  y : Cm
deriving DecidableEq, Repr

/-! ### Move Table (chapters 5 and 7) -/

/-- Kind of a move (R97), in the order of R96. -/
inductive MoveKind
  | store | relocate | toTruck | unload | putDown | shift
deriving DecidableEq, Repr

/-- Origin of a move (R96). -/
inductive MoveOrigin
  | link | digout | plan | abort
deriving DecidableEq, Repr

/-- State of a move (R98), in the order of R96. -/
inductive MoveState
  | queued | active | parked | held | faulted | done | cancelled
deriving DecidableEq, Repr

/-- Phase of a move, in the order of the table of R99. -/
inductive Phase
  | claimSrc | travelSrc | bayWait | lowerGrip | hoist | weigh | claimDest | travelDest | lowerSet
deriving DecidableEq, Repr

/-- The weigh result of a move (R96). -/
structure WeighResult where
  kind : ResultKind
  weight : Option Kg
deriving DecidableEq, Repr

/-- A move record (R96), with the give-way mark of R108 (former crane, crane given way to), the crane a SHIFT names (R139), the
main move of a dig-out (R49, R147), and the phase that follows a line-drop ABORT_LOWER (R105, R169). -/
structure Move where
  number : Nat
  kind : MoveKind
  origin : MoveOrigin
  coil : Option MillId
  source : Option Place
  dest : Dest
  priority : Nat
  state : MoveState := .queued
  phase : Option Phase := none
  crane : Option CraneId := none
  waits : List Nat := []
  causes : Causes := {}
  blocker : Option Nat := none
  created : Nat
  weigh : Option WeighResult := none
  fault : Option FaultPart := none
  mark : Option (CraneId × CraneId) := none
  named : Option CraneId := none
  digFor : Option Nat := none
  afterAbort : Option Phase := none
deriving DecidableEq, Repr

/-- The Move Table and the Dispatcher's queue (R128 to R130). -/
structure Moves where
  table : Table Move := []
  last : Nat := 0
  queue : List Nat := []
deriving DecidableEq, Repr

/-! ### Runway Claim Table (chapter 6) -/

/-- Kind of a claim (R108). -/
inductive ClaimKind
  | stationary | travel | gap
deriving DecidableEq, Repr

/-- A claim (R108). -/
structure Claim where
  lo : Cm
  hi : Cm
  kind : ClaimKind
deriving DecidableEq, Repr

/-- A waiting claim request (R108). `began` is the number of the event of its first refusal, which orders the waits (R113). -/
structure Wait where
  move : Nat
  lo : Cm
  hi : Cm
  blocker : Nat
  since : Nat
  began : Nat
deriving DecidableEq, Repr

/-- A yield (R108). -/
structure Yield where
  forCrane : CraneId
  target : Cm
deriving DecidableEq, Repr

/-- State of a fence (R108). -/
inductive FenceState
  | pending | active
deriving DecidableEq, Repr

/-- A fence (R108). -/
structure Fence where
  lo : Nat
  hi : Nat
  state : FenceState
deriving DecidableEq, Repr

/-- The Runway Claim Table (R108), with the runway's fault part (R176). -/
structure Runway where
  claims : PerCrane (Option Claim) := .all none
  waits : PerCrane (Option Wait) := .all none
  yields : PerCrane (Option Yield) := .all none
  fences : Table Fence := []
  frozen : Bool := false
  sepLatches : List (CraneId × CraneId) := []
  permit : PerCrane Bool := .all false
  fault : Option FaultPart := none
deriving DecidableEq, Repr

/-! ### Bay Controllers (chapter 8) -/

/-- State of a cradle (R149). -/
inductive CradleState
  | free
  | reserved (move : Nat)
  | loaded (coil : MillId) (picking : Option Nat)
deriving DecidableEq, Repr

/-- A cradle (R149). -/
structure Cradle where
  d : Nat
  maxWeight : Nat
  maxOd : Nat
  state : CradleState := .free
deriving DecidableEq, Repr

/-- State of a plan entry (R149). -/
inductive EntryState
  | planned | moving | onTruck | overweight | withdrawn
deriving DecidableEq, Repr

/-- A plan entry (R149). -/
structure Entry where
  coil : MillId
  cradle : Nat
  move : Nat
  state : EntryState := .planned
  delta : Option Kg := none
deriving DecidableEq, Repr

/-- State of a truck visit (R148). -/
inductive VisitState
  | securing | taring | ready | loading | paused | verifying | verified | discrepancy | unloading | departing
deriving DecidableEq, Repr

/-- G, E and T of a comparison (R168). -/
structure Verification where
  g : Kg
  e : Kg
  t : Kg
deriving DecidableEq, Repr

/-- A truck visit (R148). `priority` is absent until LOAD_PLAN sets it: the table gives 0-7, set at LOAD_PLAN, and no value before (DESIGN
CHOICE, notes/assumptions/40.md). -/
structure Visit where
  truck : TruckId
  l : Nat
  cradles : List Cradle
  tk : Nat
  ta : Nat
  kMax : Nat
  aMax : Nat
  gMax : Nat
  tare : Option (Kg × Nat) := none
  lastGross : Option Kg := none
  plan : List Entry := []
  priority : Option Nat := none
  state : VisitState := .securing
  verification : Option Verification := none
deriving DecidableEq, Repr

/-- A Bay Controller (R148, R151, R165). -/
structure Bay where
  inPosition : Bool := false
  safe : Bool := false
  visit : Option Visit := none
  lock : Option Nat := none
  waiting : List Nat := []
deriving DecidableEq, Repr

/-! ### Link Controller (chapters 10 and 11) -/

/-- Mode of the coordinator, in the order of 10.6. -/
inductive Mode
  | setup | run | quiesced | stopped
deriving DecidableEq, Repr

/-- Cause of a MODE_CHANGE notice (R200). -/
inductive ModeCause
  | runStart | quiesce | enterSetup | fault | restart | powerOn
deriving DecidableEq, Repr

/-- Cause of a CRANE_STATE notice (R82, R208). -/
inductive CraneCause
  | reinstate | yield | yieldEnd | fault
deriving DecidableEq, Repr

/-- Cause of a TRUCK_STATE notice (R208). -/
inductive TruckCause
  | checkin | secured | unsecured | tared | tareOver | plan | loadedAll | recheckPass | recheckFail | gross | release | abort
  | unloaded | unloadCancelled | departed
deriving DecidableEq, Repr

/-- Cause of a PLAN_ENTRY notice (R208). -/
inductive EntryCause
  | assigned | loaded | withdrawn | overweight | unloaded | cradleChange | setdown
deriving DecidableEq, Repr

/-- Cause of a SCALE_STATE notice (R208). -/
inductive ScaleCause
  | state | failed | unstable | zeroed | zeroRange | zeroAbandoned
deriving DecidableEq, Repr

/-- Action of a FAULT_CLEARED notice (R208). -/
inductive ClearAction
  | retry | cancel | clear | reassign | ended
deriving DecidableEq, Repr

/-- Why a hook result was not written (R72). -/
inductive NotWritten
  | belowEmpty | aboveSwl
deriving DecidableEq, Repr

/-- The content of a notice, by kind (R194, R208). -/
inductive NoticeBody
  | moveState (move : Nat) (kind : MoveKind) (coil : Option MillId) (state : MoveState) (phase : Option Phase)
      (crane : Option CraneId)
  | coilWeighed (move : Nat) (coil : MillId) (crane : CraneId) (result : ResultKind) (weight : Option Kg) (written : Bool)
      (reason : Option NotWritten) (deviation : Bool)
  | coilCooled (coil : MillId) (loc : Place)
  | coilDispatched (coil : MillId) (bay : BayId) (cradle : Nat) (declared : Nat) (measured : Option Measured)
  | craneState (crane : CraneId) (state : Service) (cause : CraneCause)
  | reportLate (crane : CraneId) (lastTime : Option Nat)
  | faultOpened (subject : Subject) (cls : Nat) (code : Nat) (detail : Nat) (origin : Option Origin) (order : Option OrderKind)
      (repeated : Bool)
  | faultCleared (subject : Subject) (cls : Nat) (code : Nat) (detail : Nat) (action : ClearAction)
  | truckState (bay : BayId) (truck : TruckId) (state : Option VisitState) (cause : TruckCause) (check : Option Verification)
  | planEntry (bay : BayId) (truck : TruckId) (entry : Nat) (coil : MillId) (cradle : Nat) (state : EntryState)
      (cause : EntryCause) (delta : Option Kg)
  | fenceState (fence : Nat) (lo : Nat) (hi : Nat) (state : FenceState)
  | modeChange (old : Option Mode) (new : Mode) (cause : ModeCause)
  | scaleState (bay : BayId) (state : ScaleState) (session : Option SessionKind) (cause : ScaleCause) (value : Option Kg)
  | storeDone (ok : Bool)
  | slotReallocated (move : Nat) (coil : Option MillId) (old : Option Dest) (new : SlotAddr) (weight : Kg)
deriving DecidableEq, Repr

/-- A notice (R194). -/
structure Notice where
  number : Nat
  time : Nat
  body : NoticeBody
deriving DecidableEq, Repr

/-- The tables of the read cursor (R196). -/
inductive TableName
  | coils | slots | moves | cranes | trucks | fences
deriving DecidableEq, Repr

/-- Refusal reasons 1 to 30 (R193). -/
inductive Reason
  | badMode | badLength | badField | unknownCode | busy | noCoil | coilExists | noSuchSlot | slotTaken | slotUnfit
  | rowProtected | coilBusy | coilBlocked | coilHot | coilOnHook | noPlace | noMove | moveState | tableFull | craneState
  | claimOverlap | bayState | planOverload | planFit | faultNone | layoutInvalid | layoutLocked | fenceFull | scaleState
  | zeroRange
deriving DecidableEq, Repr

/-- What IDENTIFY returns (R199). -/
structure Identity where
  mode : Mode
  valid : Bool
  edition : Nat
  cranes : Nat
  rows : Nat
  slots : Nat
  bays : Nat
deriving DecidableEq, Repr

/-- What STATUS returns (R198). -/
structure Summary where
  mode : Mode
  busy : Bool
  clock : Nat
  coils : Nat
  moves : Nat
  notices : Nat
  lost : Bool
  cranes : PerCrane (Service × Bool × Option Nat)
  frozen : Bool
  runwayFault : Option (Nat × Nat)
  coordFault : Option (Nat × Nat)
  bays : PerBay (Option VisitState × ScaleState × Bool)
deriving DecidableEq, Repr

/-- The content of a table record (R196, R208). -/
inductive RecordBody
  | coil (c : Coil)
  | slot (a : SlotAddr) (st : Option SlotState) (protect : Bool)
  | saddle (x : Saddle) (coil : Option MillId)
  | move (m : Move)
  | crane (rec : CraneRec) (claim : Option Claim) (permit : Bool) (hook : Option MillId) (last : Option Sample)
      (stage : Option Stage)
  | truck (bay : Bay) (scale : BayScale)
  | fence (f : Fence)
deriving DecidableEq, Repr

/-- A record of a READ_NEXT reply (R197); an absent content is the empty marker. -/
structure Record where
  table : TableName
  index : Nat
  content : Option RecordBody
deriving DecidableEq, Repr

/-- The results of a DONE reply (R208). -/
inductive Result
  | plain
  | identity (i : Identity)
  | summary (s : Summary)
  | count (n : Nat)
  | records (l : List Record)
  | notices (l : List Notice)
  | clamped (b : Bool)
  | entry (n : Nat)
  | announced (entry : Nat) (move : Nat) (dest : SlotAddr)
  | requested (move : Nat) (dest : Dest) (digouts : List Nat)
  | redirected (dest : Dest)
  | fence (n : Nat) (state : FenceState)
  | planned (entries : List (Nat × Nat)) (digouts : List Nat)
  | unloads (moves : List Nat)
deriving DecidableEq, Repr

/-- The body of a reply, by its status byte (R193). -/
inductive ReplyBody
  | done (r : Result)
  | accepted
  | refused (reason : Reason) (detail : Byte)
deriving DecidableEq, Repr

/-- A reply: its code, the sequence byte of the request, its body (R191). -/
structure Reply where
  code : Byte
  seq : Byte
  body : ReplyBody
deriving DecidableEq, Repr

/-- The receiver of the supervisory link, with the bytes of the frame so far after its start byte (R190). -/
inductive Receiver
  | hunt
  | frame (got : List Byte)
deriving DecidableEq, Repr

/-- The Link Controller (R190 to R200). -/
structure Link where
  mode : Mode := .setup
  rx : Receiver := .hunt
  notices : List Notice := []
  noticeCount : Nat := 0
  lost : Bool := false
  fetch : Option (Byte × List Notice) := none
  cursor : TableName × Nat := (.coils, 0)
  replies : List Reply := []
deriving DecidableEq, Repr

/-- What an indicator shows (R206). -/
inductive Led
  | off | flashing | on
deriving DecidableEq, Repr

/-- The indicators (R206). -/
structure Leds where
  run : Led := .on
  fault : Led := .on
deriving DecidableEq, Repr

/-- The supply and the start-up check (R205, R206). -/
inductive Power
  | off | checking | on
deriving DecidableEq, Repr

/-! ### The whole state -/

/-- The state of the coordinator. The fields `sent`, `eventNo` and `pending` are the model's own: the orders the last command put
on the crane links, the number of commands carried out, and the commands that wait. -/
structure State where
  power : Power := .checking
  layout : Layout := {}
  yard : Yard := {}
  coils : Table Coil := []
  weighing : Weighing := {}
  cranes : PerCrane CraneRec := .all {}
  moves : Moves := {}
  runway : Runway := {}
  bays : PerBay Bay := .all {}
  coordFault : Option FaultPart := none
  clock : Nat := 0
  link : Link := {}
  leds : Leds := {}
  sent : List SentOrder := []
  eventNo : Nat := 0
  pending : List Instr := []
deriving DecidableEq, Repr

/-- The machine right after the supply has come on: every block at its power-on value (R205), the check of a nonvolatile store
that was never written under way (notes/assumptions/2.md). -/
def State.reset : State := {}

/-- The reasons a step can stop with a fault: none. Every fault the spec describes (chapter 9) is state. -/
inductive Fault : Type
deriving DecidableEq, Repr

/-- The reasons a step can be refused. -/
inductive Refusal
  /-- Raised by an arm of `exec` whose command has no meaning yet: safe. No arm raises it. -/
  | notModelled (mnemonic : String)
deriving DecidableEq, Repr

end Sys2Proof.Machine
end

