-- ==== Sys2Proof/Machine/Arith.lean ====
section
/-! DEFINITION. Rounding (0.5 (7)) and tables of entries. -/

namespace Sys2Proof.Machine

/-- round_away (0.5 (7)(a)): `num / den` to the nearest integer, halves away from zero, for a positive `den`. -/
def roundAway (num : Int) (den : Nat) : Int :=
  let q : Int := ((2 * num.natAbs + den) / (2 * den) : Nat)
  if num < 0 then -q else q

/-- The entry of a key, `none` for an empty entry. -/
def Table.get? {α : Type} : Table α → Nat → Option α
  | [], _ => none
  | (j, v) :: rest, i => if j = i then some v else Table.get? rest i

/-- The table with the entry of a key put or replaced, its keys still rising. -/
def Table.put {α : Type} : Table α → Nat → α → Table α
  | [], i, v => [(i, v)]
  | (j, u) :: rest, i, v =>
    if i < j then (i, v) :: (j, u) :: rest
    else if i = j then (i, v) :: rest
    else (j, u) :: Table.put rest i v

/-- The table with the entry of a key emptied. -/
def Table.erase {α : Type} (t : Table α) (i : Nat) : Table α := t.filter fun e => e.1 != i

/-- The table with a function applied to every content, the keys kept. -/
def Table.mapVals {α : Type} (t : Table α) (f : α → α) : Table α := t.map fun e => (e.1, f e.2)

/-- The contents of the table in rising order of key. -/
def Table.vals {α : Type} (t : Table α) : List α := t.map (·.2)

/-- The lowest-numbered empty entry at or above `i` (R17, R128), for a table whose keys rise. -/
def Table.lowestFrom {α : Type} : Table α → Nat → Nat
  | [], i => i
  | (j, _) :: rest, i => if j = i then Table.lowestFrom rest (i + 1) else if i < j then i else Table.lowestFrom rest i

/-- The canonical form of a table: its keys strictly rise. -/
def Table.wf {α : Type} : Table α → Bool
  | [] => true
  | (i, _) :: rest => rest.all (fun e => decide (i < e.1)) && Table.wf rest

end Sys2Proof.Machine
end

