-- ==== Sys2Proof/WellFormed.lean ====
section
/-! DEFINITION. Which commands the outside can send at all: operands that a frame, a converter or a status telegram can carry. -/

namespace Sys2Proof

/-- The request codes of section 10.3. -/
def requestCodes : List Nat :=
  [0x01, 0x02, 0x03, 0x04, 0x05,
   0x10, 0x11, 0x12, 0x13, 0x14, 0x15, 0x16, 0x17,
   0x20, 0x21, 0x22, 0x23,
   0x30, 0x31, 0x32,
   0x40, 0x41, 0x42, 0x43, 0x44,
   0x50, 0x51, 0x52,
   0x60, 0x61,
   0x70, 0x71, 0x72, 0x73, 0x74]

/-- The converter range of R3 and R60. -/
def countInRange (c : Int) : Bool := decide (-8388608 ≤ c ∧ c ≤ 8388607)

/-- A status telegram has the fields of R85 in the widths of R209. -/
def Status.wellFormed (st : Status) : Bool :=
  decide (st.order ≤ 255) && decide (st.x ≤ 65535) && decide (st.y ≤ 65535) && countInRange st.c1 && countInRange st.c2
    && decide (st.drive ≤ 255)

/-- The body of a frame has 0 to 250 bytes (10.1, R190). -/
def bodyFits (body : List Byte) : Bool := decide (body.length ≤ 250)

/-- The operands lie in the ranges the telegrams, frames and converters give them. -/
def Instr.wellFormed : Instr → Bool
  | .powerOn | .storeCheckEnd _ | .storeWriteEnd _ | .replySent | .yardClockSecond | .minuteTick | .lossOfSupply => true
  | .identify _ b | .status _ b | .cursorSet _ b | .readNext _ b | .noticeFetch _ b => bodyFits b
  | .layoutBegin _ b | .layoutRunway _ b | .layoutCrane _ b | .layoutRow _ b | .layoutIntake _ b | .layoutBay _ b
  | .layoutTuning _ b | .layoutCommit _ b => bodyFits b
  | .runStart _ b | .quiesce _ b | .enterSetup _ b | .restart _ b => bodyFits b
  | .coilRegister _ b | .coilRemove _ b | .coilAnnounce _ b => bodyFits b
  | .moveRequest _ b | .moveHold _ b | .moveResume _ b | .moveCancel _ b | .moveRedirect _ b => bodyFits b
  | .rowProtect _ b | .fenceAdd _ b | .fenceRemove _ b | .craneReinstate _ b | .faultClear _ b => bodyFits b
  | .truckCheckin _ b | .loadPlan _ b | .truckRelease _ b | .truckAbort _ b | .scaleZero _ b => bodyFits b
  | .unknownCodeRequest code _ b => bodyFits b && !(requestCodes.contains code.toNat)
  | .requestDiscardedUnhandled _ _ b => bodyFits b
  | .frameBrokenOff got => decide (1 ≤ got.length ∧ got.length ≤ 255)
  | .frameBadCrc got => decide (6 ≤ got.length ∧ got.length ≤ 256)
  | .frameLengthOver n => decide (250 < n.toNat)
  | .craneStatus _ st => st.wellFormed
  | .craneStatusDiscarded _ got => decide (got.length ≤ 260)
  | .craneFrameBrokenOff _ | .reportLate _ | .reportLost _ | .claimWaitExpiry _ => true
  | .bayScan _ c1 c2 c3 c4 => countInRange c1 && countInRange c2 && countInRange c3 && countInRange c4
  | .settleExpiry _ | .stabilityTimeout _ | .bayLineChange _ _ _ => true

end Sys2Proof
end

