-- ==== Sys2Proof/Machine/Codec.lean ====
section
/-! DEFINITION. Bytes: the field types of R207, the bodies of replies, notices and records (R208), frames and their CRC (R190,
R209), and the receiver of the supervisory link (R190). -/

namespace Sys2Proof.Machine

/-! ### Fields (R207) -/

/-- The unsigned number of some bytes, high byte first. -/
def beNat (l : List Byte) : Nat := l.foldl (fun n b => n * 256 + b.toNat) 0

/-- The bytes of the field of `len` bytes at position `pos`, the first body byte being position 1. -/
def fieldBytes (body : List Byte) (pos len : Nat) : List Byte := (body.drop (pos - 1)).take len

/-- A U8 field. -/
def u8At (body : List Byte) (pos : Nat) : Nat := beNat (fieldBytes body pos 1)

/-- A U16 field. -/
def u16At (body : List Byte) (pos : Nat) : Nat := beNat (fieldBytes body pos 2)

/-- A U32 field. -/
def u32At (body : List Byte) (pos : Nat) : Nat := beNat (fieldBytes body pos 4)

/-- An S24 field, two's complement. -/
def s24At (body : List Byte) (pos : Nat) : Int :=
  let n := beNat (fieldBytes body pos 3)
  if n < 8388608 then (n : Int) else (n : Int) - 16777216

/-- A U8. -/
def u8 (n : Nat) : List Byte := [BitVec.ofNat 8 n]

/-- A U16, high byte first. -/
def u16 (n : Nat) : List Byte := [BitVec.ofNat 8 (n / 256), BitVec.ofNat 8 n]

/-- A U32, high byte first. -/
def u32 (n : Nat) : List Byte := u16 (n / 65536) ++ u16 n

/-- An S24, high byte first. -/
def s24 (i : Int) : List Byte :=
  let n := (i % 16777216).toNat
  BitVec.ofNat 8 (n / 65536) :: u16 n

/-- An S32, high byte first. -/
def s32 (i : Int) : List Byte := u32 (i % 4294967296).toNat

/-- An optional field: its absent value is all bytes FFH (R207). -/
def optNat (enc : Nat → List Byte) (len : Nat) : Option Nat → List Byte
  | some n => enc n
  | none => List.replicate len 0xFF#8

/-- An optional S32: 80000000H when absent (R207). -/
def optS32 : Option Int → List Byte
  | some i => s32 i
  | none => u32 0x80000000

/-- An optional mill ID: twelve 00H bytes when absent (R207). -/
def optId : Option MillId → List Byte
  | some i => i
  | none => List.replicate 12 0#8

/-- A flag sent as U8. -/
def flag (b : Bool) : List Byte := u8 (if b then 1 else 0)

/-! ### Numbers and ENUM positions -/

/-- Crane number. -/
def craneNum : CraneId → Nat
  | .c1 => 1 | .c2 => 2 | .c3 => 3 | .c4 => 4

/-- The crane of a number. -/
def craneOf : Nat → Option CraneId
  | 1 => some .c1 | 2 => some .c2 | 3 => some .c3 | 4 => some .c4 | _ => none

/-- Bay number. -/
def bayNum : BayId → Nat
  | .b1 => 1 | .b2 => 2

/-- The bay of a number. -/
def bayOf : Nat → Option BayId
  | 1 => some .b1 | 2 => some .b2 | _ => none

/-- Saddle number (R207). -/
def saddleNum : Saddle → Nat
  | .ia => 1 | .ib => 2

/-- Tier byte (R207). -/
def tierNum : Tier → Nat
  | .bottom => 0 | .top => 1

def hookNum : Hook → Nat
  | .opened => 0 | .gripped => 1

def hoistNum : Hoist → Nat
  | .up => 0 | .mid => 1 | .down => 2

def orderStateNum : OrderState → Nat
  | .idle => 0 | .running => 1 | .done => 2 | .failed => 3 | .refused => 4

def orderKindNum : OrderKind → Nat
  | .travel => 0 | .lowerGrip => 1 | .hoist => 2 | .lowerSet => 3 | .abortLower => 4 | .stop => 5

def moveKindNum : MoveKind → Nat
  | .store => 0 | .relocate => 1 | .toTruck => 2 | .unload => 3 | .putDown => 4 | .shift => 5

def originNum : MoveOrigin → Nat
  | .link => 0 | .digout => 1 | .plan => 2 | .abort => 3

def moveStateNum : MoveState → Nat
  | .queued => 0 | .active => 1 | .parked => 2 | .held => 3 | .faulted => 4 | .done => 5 | .cancelled => 6

def phaseNum : Phase → Nat
  | .claimSrc => 0 | .travelSrc => 1 | .bayWait => 2 | .lowerGrip => 3 | .hoist => 4 | .weigh => 5 | .claimDest => 6
  | .travelDest => 7 | .lowerSet => 8

def resultNum : ResultKind → Nat
  | .stable => 0 | .unstable => 1 | .failed => 2

def serviceNum : Service → Nat
  | .inService => 0 | .yielding => 1 | .out => 2

def sessionNum : SessionKind → Nat
  | .hook => 0 | .tare => 1 | .setdown => 2 | .recheck => 3 | .gross => 4 | .zero => 5

def stageNum : Stage → Nat
  | .settle => 0 | .window => 1 | .waitReady => 2

def scaleNum : ScaleState → Nat
  | .warmup => 0 | .saturated => 1 | .over => 2 | .ready => 3 | .none => 4

def claimKindNum : ClaimKind → Nat
  | .stationary => 0 | .travel => 1 | .gap => 2

def fenceNum : FenceState → Nat
  | .pending => 0 | .active => 1

def cradleNum : CradleState → Nat
  | .free => 0 | .reserved _ => 1 | .loaded _ _ => 2

def entryNum : EntryState → Nat
  | .planned => 0 | .moving => 1 | .onTruck => 2 | .overweight => 3 | .withdrawn => 4

def visitNum : VisitState → Nat
  | .securing => 0 | .taring => 1 | .ready => 2 | .loading => 3 | .paused => 4 | .verifying => 5 | .verified => 6
  | .discrepancy => 7 | .unloading => 8 | .departing => 9

def modeNum : Mode → Nat
  | .setup => 0 | .run => 1 | .quiesced => 2 | .stopped => 3

def modeCauseNum : ModeCause → Nat
  | .runStart => 0 | .quiesce => 1 | .enterSetup => 2 | .fault => 3 | .restart => 4 | .powerOn => 5

def craneCauseNum : CraneCause → Nat
  | .reinstate => 0 | .yield => 1 | .yieldEnd => 2 | .fault => 3

def truckCauseNum : TruckCause → Nat
  | .checkin => 0 | .secured => 1 | .unsecured => 2 | .tared => 3 | .tareOver => 4 | .plan => 5 | .loadedAll => 6
  | .recheckPass => 7 | .recheckFail => 8 | .gross => 9 | .release => 10 | .abort => 11 | .unloaded => 12
  | .unloadCancelled => 13 | .departed => 14

def entryCauseNum : EntryCause → Nat
  | .assigned => 0 | .loaded => 1 | .withdrawn => 2 | .overweight => 3 | .unloaded => 4 | .cradleChange => 5 | .setdown => 6

def scaleCauseNum : ScaleCause → Nat
  | .state => 0 | .failed => 1 | .unstable => 2 | .zeroed => 3 | .zeroRange => 4 | .zeroAbandoned => 5

def clearActionNum : ClearAction → Nat
  | .retry => 0 | .cancel => 1 | .clear => 2 | .reassign => 3 | .ended => 4

def notWrittenNum : NotWritten → Nat
  | .belowEmpty => 0 | .aboveSwl => 1

def tableNum : TableName → Nat
  | .coils => 0 | .slots => 1 | .moves => 2 | .cranes => 3 | .trucks => 4 | .fences => 5

/-- Refusal reason number (R193). -/
def reasonNum : Reason → Nat
  | .badMode => 1 | .badLength => 2 | .badField => 3 | .unknownCode => 4 | .busy => 5 | .noCoil => 6 | .coilExists => 7
  | .noSuchSlot => 8 | .slotTaken => 9 | .slotUnfit => 10 | .rowProtected => 11 | .coilBusy => 12 | .coilBlocked => 13
  | .coilHot => 14 | .coilOnHook => 15 | .noPlace => 16 | .noMove => 17 | .moveState => 18 | .tableFull => 19
  | .craneState => 20 | .claimOverlap => 21 | .bayState => 22 | .planOverload => 23 | .planFit => 24 | .faultNone => 25
  | .layoutInvalid => 26 | .layoutLocked => 27 | .fenceFull => 28 | .scaleState => 29 | .zeroRange => 30

/-- Subject kind (R183) and number of a fault subject. -/
def subjectNum : Subject → Nat × Nat
  | .move n => (0, n)
  | .crane c => (1, craneNum c)
  | .runway => (2, 0)
  | .coordinator => (3, 0)

/-- An optional crane number. -/
def optCrane (c : Option CraneId) : List Byte := optNat u8 1 (c.map craneNum)

/-! ### SLOT and PLACE (R207) -/

/-- A SLOT field. -/
def slotBytes (a : SlotAddr) : List Byte := u8 a.row ++ u8 (tierNum a.tier) ++ u8 a.pos

/-- A PLACE field naming where a coil lies. -/
def placeBytes : Place → List Byte
  | .slot a => u8 1 ++ slotBytes a
  | .saddle x => u8 2 ++ u8 (saddleNum x) ++ u8 0 ++ u8 0
  | .hook c => u8 3 ++ u8 (craneNum c) ++ u8 0 ++ u8 0
  | .cradle b k => u8 4 ++ u8 (bayNum b) ++ u8 k ++ u8 0

/-- An optional PLACE field. -/
def optPlace : Option Place → List Byte
  | some p => placeBytes p
  | none => [0#8, 0#8, 0#8, 0#8]

/-- A PLACE field naming a destination. -/
def destBytes : Dest → List Byte
  | .slot a => u8 1 ++ slotBytes a
  | .cradle b k => u8 4 ++ u8 (bayNum b) ++ u8 k ++ u8 0
  | .runway x => u8 5 ++ u8 0 ++ u16 x
  | .auto => u8 6 ++ u8 0 ++ u8 0 ++ u8 0

/-- An optional PLACE naming a destination. -/
def optDest : Option Dest → List Byte
  | some d => destBytes d
  | none => [0#8, 0#8, 0#8, 0#8]

/-- The source of a measured weight as a PLACE (R208). R207 gives a bay no PLACE kind: a bay is sent as kind 04H with cradle 0 (the model's
choice, notes/assumptions/16.md). -/
def sourcePlace : WeighSource → Place
  | .crane c => .hook c
  | .bay b => .cradle b 0

/-! ### Notices (R208) -/

/-- The kind number of a notice (R194). -/
def NoticeBody.kindNum : NoticeBody → Nat
  | .moveState .. => 1 | .coilWeighed .. => 2 | .coilCooled .. => 3 | .coilDispatched .. => 4 | .craneState .. => 5
  | .reportLate .. => 6 | .faultOpened .. => 7 | .faultCleared .. => 8 | .truckState .. => 9 | .planEntry .. => 10
  | .fenceState .. => 11 | .modeChange .. => 12 | .scaleState .. => 13 | .storeDone .. => 14 | .slotReallocated .. => 15

/-- The origin of an escalated fault, or its absent bytes. -/
def originBytes : Option Origin → List Byte
  | some o => u8 o.code ++ u16 o.detail ++ u8 (subjectNum o.subject).1 ++ u16 (subjectNum o.subject).2
  | none => List.replicate 6 0xFF#8

/-- G, E and T, or their absent values. -/
def checkBytes : Option Verification → List Byte
  | some v => s32 v.g ++ s32 v.e ++ s32 v.t
  | none => optS32 none ++ optS32 none ++ optS32 none

/-- The content of a notice (R208). -/
def NoticeBody.content : NoticeBody → List Byte
  | .moveState m k id st ph c =>
    u16 m ++ u8 (moveKindNum k) ++ optId id ++ u8 (moveStateNum st) ++ optNat u8 1 (ph.map phaseNum) ++ optCrane c
  | .coilWeighed m id c r w wr why dev =>
    u16 m ++ id ++ u8 (craneNum c) ++ u8 (resultNum r) ++ optS32 w ++ flag wr ++ optNat u8 1 (why.map notWrittenNum) ++ flag dev
  | .coilCooled id p => id ++ placeBytes p
  | .coilDispatched id b k w ms =>
    id ++ u8 (bayNum b) ++ u8 k ++ u16 w ++ optNat u16 2 (ms.map (·.weight.toNat))
      ++ optPlace (ms.map fun m => sourcePlace m.source)
  | .craneState c st why => u8 (craneNum c) ++ u8 (serviceNum st) ++ u8 (craneCauseNum why)
  | .reportLate c t => u8 (craneNum c) ++ optNat u32 4 t
  | .faultOpened sj cls code d o ok rep =>
    u8 (subjectNum sj).1 ++ u16 (subjectNum sj).2 ++ u8 cls ++ u8 code ++ u16 d ++ originBytes o
      ++ optNat u8 1 (ok.map orderKindNum) ++ flag rep
  | .faultCleared sj cls code d a =>
    u8 (subjectNum sj).1 ++ u16 (subjectNum sj).2 ++ u8 cls ++ u8 code ++ u16 d ++ u8 (clearActionNum a)
  | .truckState b t st why v =>
    u8 (bayNum b) ++ t ++ u8 (match st with | some x => visitNum x | none => 10) ++ u8 (truckCauseNum why) ++ checkBytes v
  | .planEntry b t e id k st why d =>
    u8 (bayNum b) ++ t ++ u8 e ++ id ++ u8 k ++ u8 (entryNum st) ++ u8 (entryCauseNum why) ++ optS32 d
  | .fenceState n lo hi st => u8 n ++ u16 lo ++ u16 hi ++ u8 (fenceNum st)
  | .modeChange old new why => optNat u8 1 (old.map modeNum) ++ u8 (modeNum new) ++ u8 (modeCauseNum why)
  | .scaleState b st k why v =>
    u8 (bayNum b) ++ u8 (scaleNum st) ++ optNat u8 1 (k.map sessionNum) ++ u8 (scaleCauseNum why) ++ optS32 v
  | .storeDone ok => u8 (if ok then 0 else 1)
  | .slotReallocated m id old new w => u16 m ++ optId id ++ optDest old ++ slotBytes new ++ u16 w.toNat

/-- A notice in a NOTICE_FETCH reply: header and content (R208). -/
def Notice.bytes (n : Notice) : List Byte :=
  u8 n.body.kindNum ++ u16 n.number ++ u32 n.time ++ u8 n.body.content.length ++ n.body.content

/-! ### Records (R208) -/

/-- The fault part of a record: class, code, time, detail (R96). -/
def faultBytes : Option FaultPart → List Byte
  | some f => u8 f.cls ++ u8 f.code ++ u32 f.time ++ u16 f.detail
  | none => List.replicate 8 0xFF#8

/-- A list of varying length: its count, then its members (R208). -/
def counted (l : List (List Byte)) : List Byte := u8 l.length ++ l.flatten

/-- The hold causes as a list of ENUMs, LINK 0, CRANE 1, RUNWAY 2 (R96, R207, R208), in this order (DEDUCED, notes/assumptions/16.md). -/
def causesBytes (c : Causes) : List Byte :=
  counted ((if c.link then [u8 0] else []) ++ (if c.crane then [u8 1] else []) ++ (if c.runway then [u8 2] else []))

/-- A coil record (R18). -/
def coilBytes (c : Coil) : List Byte :=
  c.id ++ placeBytes c.loc ++ u16 c.declared
    ++ optNat u16 2 (c.measured.map (·.weight.toNat)) ++ optPlace (c.measured.map fun m => sourcePlace m.source)
    ++ optNat u32 4 (c.measured.map (·.time))
    ++ u16 c.od ++ u16 c.width
    ++ (match c.thermal with | .hot n => u8 0 ++ u16 n | .cold => u8 1 ++ optNat u16 2 none)
    ++ optNat u16 2 c.active ++ optNat u8 1 (c.visit.map bayNum)

/-- The state, coil and move of a slot record (R35). -/
def slotStateBytes : Option SlotState → List Byte
  | none => u8 0 ++ optId none ++ optNat u16 2 none
  | some (.occupied id) => u8 1 ++ optId (some id) ++ optNat u16 2 none
  | some (.reservedIn m) => u8 2 ++ optId none ++ u16 m
  | some (.reservedOut m id) => u8 3 ++ optId (some id) ++ u16 m

/-- A move record (R96). -/
def moveBytes (m : Move) : List Byte :=
  u16 m.number ++ u8 (moveKindNum m.kind) ++ u8 (originNum m.origin) ++ optId m.coil ++ optPlace m.source ++ destBytes m.dest
    ++ u8 m.priority ++ u8 (moveStateNum m.state) ++ optNat u8 1 (m.phase.map phaseNum) ++ optCrane m.crane
    ++ counted (m.waits.map u16) ++ causesBytes m.causes ++ optNat u8 1 m.blocker ++ u32 m.created
    ++ optNat u8 1 (m.weigh.map fun w => resultNum w.kind) ++ optS32 (m.weigh.bind (·.weight)) ++ faultBytes m.fault

/-- The body of a status telegram (R209). -/
def statusBytes (st : Status) : List Byte :=
  u8 st.order ++ u8 (orderStateNum st.ostate) ++ u16 st.x ++ u16 st.y ++ u8 (hookNum st.hook) ++ u8 (hoistNum st.hoist)
    ++ flag st.still ++ s24 st.c1 ++ s24 st.c2 ++ u8 st.drive

/-- The fault part of a crane: class, code, time, detail and origin, as chapter 9 gives (R81, R176). -/
def craneFaultBytes (f : Option FaultPart) : List Byte := faultBytes f ++ originBytes (f.bind (·.origin))

/-- A crane record (R81), with the claim, the PERMIT, the hook content and the values of R80. An absent last status is sent with its time as 20
bytes FFH, since R207 gives S24 no absent value (the model's choice, notes/assumptions/16.md). -/
def craneBytes (r : CraneRec) (cl : Option Claim) (permit : Bool) (hk : Option MillId) (last : Option Sample)
    (stage : Option Stage) : List Byte :=
  u8 (serviceNum r.service) ++ flag r.seen
    ++ (match r.last with | some (st, t) => statusBytes st ++ u32 t | none => List.replicate 20 0xFF#8)
    ++ flag r.timer ++ u8 r.counter
    ++ (match r.order with
        | some o => u8 o.num ++ u8 (orderKindNum o.kind) ++ u16 o.x.toNat ++ u16 o.y.toNat ++ flag o.running
        | none => List.replicate 7 0xFF#8)
    ++ optNat u16 2 r.current ++ counted (r.park.map u16) ++ optId r.putDownFirst ++ flag r.claimLatch ++ u8 r.drive
    ++ craneFaultBytes r.fault
    ++ (match cl with
        | some c => u16 c.lo.toNat ++ u16 c.hi.toNat ++ u8 (claimKindNum c.kind)
        | none => List.replicate 5 0xFF#8)
    ++ flag permit ++ optId hk
    ++ optS32 (last.map (·.load))
    ++ (match last with
        | some s => u8 ((if s.saturated then 1 else 0) + (if s.overRange then 2 else 0))
        | none => u8 0xFF)
    ++ optNat u8 1 (stage.map stageNum)

/-- A cradle of a visit (R149). What its state names is sent as one move number, the reserving or the picking move, and the coil (the model's
choice where R208 is silent, notes/assumptions/16.md). -/
def cradleBytes (k : Cradle) : List Byte :=
  u16 k.d ++ u16 k.maxWeight ++ u16 k.maxOd ++ u8 (cradleNum k.state)
    ++ (match k.state with
        | .free => optNat u16 2 none ++ optId none
        | .reserved m => u16 m ++ optId none
        | .loaded id p => optNat u16 2 p ++ id)

/-- A plan entry (R149). -/
def entryBytes (e : Entry) : List Byte :=
  e.coil ++ u8 e.cradle ++ u16 e.move ++ u8 (entryNum e.state) ++ optS32 e.delta

/-- A truck visit (R148); a priority that LOAD_PLAN has not set yet is sent as FFH (DESIGN CHOICE, notes/assumptions/40.md). -/
def visitBytes (v : Visit) : List Byte :=
  v.truck ++ u16 v.l ++ counted (v.cradles.map cradleBytes) ++ u16 v.tk ++ u16 v.ta ++ u16 v.kMax ++ u16 v.aMax ++ u16 v.gMax
    ++ optS32 (v.tare.map (·.1)) ++ optNat u32 4 (v.tare.map (·.2)) ++ optS32 v.lastGross
    ++ counted (v.plan.map entryBytes) ++ optNat u8 1 v.priority ++ u8 (visitNum v.state) ++ checkBytes v.verification

/-- A TRUCKS record (R148, R197): the visit where there is one, lines, lock holder, count of waiting moves, scale values of R80. -/
def truckBytes (b : Bay) (sc : BayScale) : List Byte :=
  (match b.visit with | some v => visitBytes v | none => [])
    ++ flag b.inPosition ++ flag b.safe ++ optNat u16 2 b.lock ++ u8 b.waiting.length
    ++ u8 (scaleNum sc.state) ++ optS32 (sc.last.map (·.load)) ++ s32 sc.trim
    ++ optNat u8 1 (sc.session.map fun s => sessionNum s.kind) ++ optNat u8 1 (sc.session.map fun s => stageNum s.stage)

/-- The content of a record (R208). -/
def RecordBody.bytes : RecordBody → List Byte
  | .coil c => coilBytes c
  | .slot a st p => slotBytes a ++ slotStateBytes st ++ flag p
  | .saddle x id => u8 (saddleNum x) ++ optId id
  | .move m => moveBytes m
  | .crane r cl p hk last stage => craneBytes r cl p hk last stage
  | .truck b sc => truckBytes b sc
  | .fence f => u16 f.lo ++ u16 f.hi ++ u8 (fenceNum f.state)

/-- The marker of a record is 1: it has content, and a TRUCKS record has its visit; the TRUCKS record of a bay with no visit has the absent
marker 0 and still its lines, lock and scale (R197, R208). -/
def RecordBody.marked : RecordBody → Bool
  | .truck b _ => b.visit.isSome
  | _ => true

/-- A record with its header: table, index, marker, content length (R208). -/
def Record.bytes (r : Record) : List Byte :=
  let content := match r.content with | some c => c.bytes | none => []
  let marker := match r.content with | some c => c.marked | none => false
  u8 (tableNum r.table) ++ u16 r.index ++ flag marker ++ u8 content.length ++ content

/-! ### Replies (R208) -/

/-- A class and code, FFH each when absent. -/
def classCode : Option (Nat × Nat) → List Byte
  | some (c, k) => u8 c ++ u8 k
  | none => [0xFF#8, 0xFF#8]

/-- The designation "BZY-420 " (R208). -/
def designation : List Byte := [0x42#8, 0x5A#8, 0x59#8, 0x2D#8, 0x34#8, 0x32#8, 0x30#8, 0x20#8]

/-- STATUS of one crane (R208). -/
def craneSummary (p : Service × Bool × Option Nat) : List Byte := u8 (serviceNum p.1) ++ flag p.2.1 ++ optNat u8 1 p.2.2

/-- STATUS of one bay (R208). -/
def baySummary (p : Option VisitState × ScaleState × Bool) : List Byte :=
  optNat u8 1 (p.1.map visitNum) ++ u8 (scaleNum p.2.1) ++ flag p.2.2

/-- The results of a DONE reply, after its status byte (R208). -/
def Result.bytes : Result → List Byte
  | .plain => []
  | .identity i =>
    designation ++ u8 (modeNum i.mode) ++ flag i.valid ++ u16 i.edition ++ u8 i.cranes ++ u8 i.rows ++ u16 i.slots ++ u8 i.bays
  | .summary s =>
    u8 (modeNum s.mode) ++ flag s.busy ++ u32 s.clock ++ u16 s.coils ++ u8 s.moves ++ u8 s.notices ++ flag s.lost
      ++ craneSummary s.cranes.c1 ++ craneSummary s.cranes.c2 ++ craneSummary s.cranes.c3 ++ craneSummary s.cranes.c4
      ++ flag s.frozen ++ classCode s.runwayFault ++ classCode s.coordFault ++ baySummary s.bays.b1 ++ baySummary s.bays.b2
  | .count n => u16 n
  | .records l => counted (l.map Record.bytes)
  | .notices l => counted (l.map Notice.bytes)
  | .clamped b => flag b
  | .entry n => u16 n
  | .announced e m a => u16 e ++ u16 m ++ slotBytes a
  | .requested m d digs =>
    u16 m ++ destBytes d ++ u8 digs.length ++ optNat u16 2 (digs[0]?) ++ optNat u16 2 (digs[1]?)
  | .redirected d => destBytes d
  | .fence n st => u8 n ++ u8 (fenceNum st)
  | .planned es digs => counted (es.map fun e => u16 e.1 ++ u8 e.2) ++ counted (digs.map u16)
  | .unloads ms => counted (ms.map u16)

/-- The body of a reply: status byte and results, or reason and detail (R193, R208). -/
def ReplyBody.bytes : ReplyBody → List Byte
  | .done r => u8 0 ++ r.bytes
  | .accepted => u8 1
  | .refused why d => u8 2 ++ u8 (reasonNum why) ++ [d]

/-! ### Frames (R190, R209) -/

/-- One bit of the CRC: the polynomial 1021H, most significant bit first. -/
def crcBit (c : BitVec 16) : BitVec 16 := if c.msb then (c <<< 1) ^^^ 0x1021#16 else c <<< 1

/-- One byte of the CRC (R190). -/
def crcByte (c : BitVec 16) (b : Byte) : BitVec 16 :=
  let c := c ^^^ ((b.setWidth 16) <<< 8)
  crcBit (crcBit (crcBit (crcBit (crcBit (crcBit (crcBit (crcBit c)))))))

/-- The CRC of some bytes, initial value FFFFH (R190). -/
def crc16 (l : List Byte) : BitVec 16 := l.foldl crcByte 0xFFFF#16

/-- The two CRC bytes, high byte first (R190). -/
def crcBytes (l : List Byte) : List Byte := u16 (crc16 l).toNat

/-- A supervisory frame (10.1). -/
def linkFrame (code seq : Byte) (body : List Byte) : List Byte :=
  let inner := BitVec.ofNat 8 body.length :: code :: seq :: body
  0xA5#8 :: inner ++ crcBytes inner

/-- The frame of a reply (R191). -/
def Reply.frame (r : Reply) : List Byte := linkFrame r.code r.seq r.body.bytes

/-- A crane link frame (R209). -/
def craneFrame (type : Byte) (body : List Byte) : List Byte :=
  let inner := BitVec.ofNat 8 body.length :: type :: body
  0xC5#8 :: inner ++ crcBytes inner

/-- The frame of an order: number, kind, x and y, both 0 except for TRAVEL (R209). -/
def SentOrder.frame (o : SentOrder) : List Byte :=
  craneFrame 0x01#8 (u8 o.num ++ u8 (orderKindNum o.kind) ++
    (if o.kind = .travel then u16 o.x.toNat ++ u16 o.y.toNat else u16 0 ++ u16 0))

/-- Hook byte (R209). -/
def hookOf : Nat → Option Hook
  | 0 => some .opened | 1 => some .gripped | _ => none

/-- Hoist byte (R209). -/
def hoistOf : Nat → Option Hoist
  | 0 => some .up | 1 => some .mid | 2 => some .down | _ => none

/-- Order state byte (R209). -/
def orderStateOf : Nat → Option OrderState
  | 0 => some .idle | 1 => some .running | 2 => some .done | 3 => some .failed | 4 => some .refused | _ => none

/-- Still byte: 0 no, 1 yes (R85, R209; notes/assumptions/16.md). -/
def stillOf : Nat → Option Bool
  | 0 => some false | 1 => some true | _ => none

/-- The status that a body spells; a wrong length or a byte beyond its list gives the reason of its discard (R209). -/
def statusOf (body : List Byte) : Except DiscardReason Status :=
  if body.length ≠ 16 then .error .badLength
  else
    match orderStateOf (u8At body 2), hookOf (u8At body 7), hoistOf (u8At body 8), stillOf (u8At body 9) with
    | some os, some hk, some ho, some st =>
      .ok { order := u8At body 1, ostate := os, x := u16At body 3, y := u16At body 5, hook := hk, hoist := ho, still := st
            c1 := s24At body 10, c2 := s24At body 13, drive := u8At body 16 }
    | _, _, _, _ => .error .badEnum

/-- The type byte of a status (R209). -/
def statusType : Byte := 0x81#8

/-- The frame of a status (R209). -/
def statusFrame (st : Status) : List Byte := craneFrame statusType (statusBytes st)

/-- The status that the bytes received on a crane link spell: a whole frame with the start byte C5H, a length byte that agrees with its body, a
good CRC over length, type and body, and the type 81H; otherwise the reason of the discard (R85, R209). -/
def readStatusFrame : List Byte → Except DiscardReason Status
  | start :: n :: type :: rest =>
    let body := rest.take n.toNat
    if start ≠ 0xC5#8 ∨ rest.length ≠ n.toNat + 2 then .error .badLength
    else if rest.drop n.toNat ≠ crcBytes (n :: type :: body) then .error .badCrc
    else if type ≠ statusType then .error .unknownType
    else statusOf body
  | _ => .error .badLength

/-! ### The receiver of the supervisory link (R190) -/

/-- How a frame ends. -/
inductive FrameEnd
  | lengthOver (n : Byte)
  | badCrc
  | request (code seq : Byte) (body : List Byte)
deriving DecidableEq, Repr

/-- One byte received: the next state of the receiver, and how a frame ended at this byte, if one did. `got` holds the bytes after
the start byte: length, code, sequence byte, body, CRC. -/
def Receiver.take : Receiver → Byte → Receiver × Option FrameEnd
  | .hunt, b => if b = 0xA5#8 then (.frame [], none) else (.hunt, none)
  | .frame got, b =>
    let got := got ++ [b]
    match got with
    | [] => (.frame got, none)
    | n :: rest =>
      if 250 < n.toNat then (.hunt, some (.lengthOver n))
      else if rest.length < n.toNat + 4 then (.frame got, none)
      else
        let inner := got.take (n.toNat + 3)
        if got.drop (n.toNat + 3) = crcBytes inner then
          (.hunt, some (.request ((inner[1]?).getD 0#8) ((inner[2]?).getD 0#8) (inner.drop 3)))
        else (.hunt, some .badCrc)

/-- 50 ms without a byte: a frame under way is broken off (R190 (1)). -/
def Receiver.pause : Receiver → Receiver
  | _ => .hunt

end Sys2Proof.Machine
end

