-- ==== Sys2Proof/Machine/Flags.lean ====
section
/-! DEFINITION. The outputs that follow the state: PERMIT outputs (R127) and indicators (R206), and the two bay flags read from
the lines (R151). -/

namespace Sys2Proof.Machine

/-- The cranes in ascending order. -/
def allCranes : List CraneId := [.c1, .c2, .c3, .c4]

/-- The bays in ascending order. -/
def allBays : List BayId := [.b1, .b2]

/-- A bay is secured while both of its lines are asserted (R151). -/
def Bay.secured (b : Bay) : Bool := b.inPosition && b.safe

/-- The crane at `x` with half-width `h` lies within its claim widened by the tolerance `p` (R87, R127 (5)). -/
def withinClaim (x h p : Int) (cl : Claim) : Bool := decide (x - h ≥ cl.lo - p ∧ x + h ≤ cl.hi + p)

/-- Condition (5) of R127, off for a crane with no claim, no last status or no entry. -/
def State.insideClaim (s : State) (c : CraneId) : Bool :=
  match s.layout.committed.cranes.get c, (s.cranes.get c).last, s.runway.claims.get c with
  | some e, some (st, _), some cl => withinClaim st.x e.h s.layout.committed.tolerance cl
  | _, _, _ => false

/-- The five conditions of R127, with the supply on. -/
def State.permitCond (s : State) (c : CraneId) : Bool :=
  decide (s.power = .on) && (decide (s.link.mode = .run) || decide (s.link.mode = .quiesced))
    && decide ((s.cranes.get c).service ≠ .out)
    && (s.cranes.get c).fault.isNone
    && !s.runway.frozen
    && s.insideClaim c

/-- Some fault part of a move, a crane or the runway is open (R206). -/
def State.anyFault (s : State) : Bool :=
  s.moves.table.any (fun e => e.2.fault.isSome) || allCranes.any (fun c => (s.cranes.get c).fault.isSome)
    || s.runway.fault.isSome || s.coordFault.isSome

/-- The indicators (R206); both off without supply. -/
def State.ledCond (s : State) : Leds :=
  match s.power with
  | .off => ⟨.off, .off⟩
  | .checking => ⟨.on, .on⟩
  | .on =>
    let fault := if s.anyFault then Led.on else Led.off
    match s.link.mode with
    | .run => ⟨.on, fault⟩
    | .setup | .quiesced => ⟨.flashing, fault⟩
    | .stopped => ⟨.off, .flashing⟩

/-- The state with every PERMIT output and indicator set again (R127, R206). -/
def State.refresh (s : State) : State :=
  { s with
    runway := { s.runway with permit := ⟨s.permitCond .c1, s.permitCond .c2, s.permitCond .c3, s.permitCond .c4⟩ }
    leds := s.ledCond }

end Sys2Proof.Machine
end

