-- ==== Sys2Proof/Machine/Ops.lean ====
section
/-! DEFINITION. One event under way, and the named operations on the records of each block: reading and changing them, the
positions of places, notices, the slot requests of the Yard Map. -/

namespace Sys2Proof.Machine

/-! ### An event under way -/

/-- The state inside one event: what it has queued and sent so far, and what it still owes at its end (notes/assumptions/10.md):
the retries of R113, the stack tops of R138, the Dispatcher run of R135, the grants of R165 and the tests of R162 and R174. -/
structure Work extends State where
  out : List NoticeBody := []
  orders : List SentOrder := []
  retry : Bool := false
  pop : Bool := false
  dispatch : Bool := false
  grant : PerBay Bool := .all false
  test : PerBay Bool := .all false

/-- The event begins: it has its number, and nothing is sent or queued yet. -/
def Work.start (s : State) : Work := { s with eventNo := s.eventNo + 1, sent := [] }

/-- The next number of a counter that runs from 1 to `top` and then from 1 again. -/
def nextCount (top n : Nat) : Nat := if n < top then n + 1 else 1

/-- A notice placed at the tail of the queue, the oldest removed and the lost flag set when 32 are held (R194). -/
def Link.queueNotice (l : Link) (time : Nat) (b : NoticeBody) : Link :=
  let n := nextCount 65535 l.noticeCount
  { l with
    notices := (if l.notices.length < 32 then l.notices else l.notices.drop (l.notices.length - 31)) ++ [⟨n, time, b⟩]
    noticeCount := n
    lost := l.lost || decide (32 ≤ l.notices.length) }

/-- The event ends: its notices stand in the queue in the order it gave them, its orders have been sent, and every output is set
again. -/
def Work.finish (w : Work) : State :=
  { w.toState with
    link := w.out.foldl (fun l b => l.queueNotice w.clock b) w.link
    sent := w.orders }.refresh

/-- A notice given to the Link Controller (R194). -/
def Work.notice (w : Work) (b : NoticeBody) : Work := { w with out := w.out ++ [b] }

/-! ### Reading and changing records -/

/-- A crane's record changed. -/
def Work.modCrane (w : Work) (c : CraneId) (f : CraneRec → CraneRec) : Work :=
  { w with cranes := w.cranes.set c (f (w.cranes.get c)) }

/-- What the Weighing Unit holds for a crane, changed. -/
def Work.modHook (w : Work) (c : CraneId) (f : HookScale → HookScale) : Work :=
  { w with weighing := { w.weighing with cranes := w.weighing.cranes.set c (f (w.weighing.cranes.get c)) } }

/-- What the Weighing Unit holds for a bay, changed. -/
def Work.modScale (w : Work) (b : BayId) (f : BayScale → BayScale) : Work :=
  { w with weighing := { w.weighing with bays := w.weighing.bays.set b (f (w.weighing.bays.get b)) } }

/-- A Bay Controller's record changed. -/
def Work.modBay (w : Work) (b : BayId) (f : Bay → Bay) : Work := { w with bays := w.bays.set b (f (w.bays.get b)) }

/-- A bay's visit changed, when it has one. -/
def Work.modVisit (w : Work) (b : BayId) (f : Visit → Visit) : Work := w.modBay b fun x => { x with visit := x.visit.map f }

/-- A crane's claim set. -/
def Work.setClaim (w : Work) (c : CraneId) (cl : Option Claim) : Work :=
  { w with runway := { w.runway with claims := w.runway.claims.set c cl } }

/-- A crane's waiting request set. -/
def Work.setWait (w : Work) (c : CraneId) (x : Option Wait) : Work :=
  { w with runway := { w.runway with waits := w.runway.waits.set c x } }

/-- A crane's yield set. -/
def Work.setYield (w : Work) (c : CraneId) (y : Option Yield) : Work :=
  { w with runway := { w.runway with yields := w.runway.yields.set c y } }

/-- The unfinished move of a number. -/
def State.findMove (s : State) (n : Nat) : Option Move := s.moves.table.vals.find? fun m => m.number == n

/-- The record of the unfinished move of a number changed. -/
def Work.modMove (w : Work) (n : Nat) (f : Move → Move) : Work :=
  { w with moves := { w.moves with table := w.moves.table.mapVals fun m => if m.number = n then f m else m } }

/-- The current move of a crane (R81). -/
def State.currentMove (s : State) (c : CraneId) : Option Move := (s.cranes.get c).current.bind s.findMove

/-- The coil record of a mill ID. -/
def State.findCoil (s : State) (id : MillId) : Option Coil := s.coils.vals.find? fun c => c.id == id

/-- The record of a coil changed. -/
def Work.modCoil (w : Work) (id : MillId) (f : Coil → Coil) : Work :=
  { w with coils := w.coils.mapVals fun c => if c.id = id then f c else c }

/-- The coil of a move. -/
def State.moveCoil (s : State) (m : Move) : Option Coil := m.coil.bind s.findCoil

/-- The weight used of a coil (R20). -/
def Coil.used (c : Coil) : Kg := match c.measured with | some m => m.weight | none => c.declared

/-- A coil is HOT (R18). -/
def Coil.isHot (c : Coil) : Bool := match c.thermal with | .hot _ => true | .cold => false

/-- The hook content of a crane: the coil whose location is that hook (R19). -/
def State.hookCoil (s : State) (c : CraneId) : Option Coil := s.coils.vals.find? fun k => k.loc == .hook c

/-- The coil of a move lies on the hook of some crane. -/
def State.coilOnHook (s : State) (m : Move) : Bool :=
  match s.moveCoil m with
  | some k => match k.loc with | .hook _ => true | _ => false
  | none => false

/-- The visit of a bay. -/
def State.visitOf (s : State) (b : BayId) : Option Visit := (s.bays.get b).visit

/-- A cradle of a visit, numbered from 1. -/
def Visit.cradle (v : Visit) (k : Nat) : Option Cradle := if k = 0 then none else v.cradles[k - 1]?

/-- A cradle of a visit given a new state. -/
def Visit.setCradle (v : Visit) (k : Nat) (st : CradleState) : Visit :=
  { v with cradles := v.cradles.mapIdx fun i x => if i + 1 = k then { x with state := st } else x }

/-! ### Neighbours and geometry -/

/-- The crane numbered one lower. -/
def westOf : CraneId → Option CraneId
  | .c1 => none | .c2 => some .c1 | .c3 => some .c2 | .c4 => some .c3

/-- The crane numbered one higher. -/
def eastOf : CraneId → Option CraneId
  | .c1 => some .c2 | .c2 => some .c3 | .c3 => some .c4 | .c4 => none

/-- A crane's entry in the committed image. -/
def State.craneEntry (s : State) (c : CraneId) : Option CraneEntry := s.layout.committed.cranes.get c

/-- A bay's entry in the committed image. -/
def State.bayEntry (s : State) (b : BayId) : Option BayEntry := s.layout.committed.bays.get b

/-- The half-width of a crane, 0 for a crane with no entry. -/
def State.halfWidth (s : State) (c : CraneId) : Cm := match s.craneEntry c with | some e => e.h | none => 0

/-- The runway length of the committed image, 0 in the empty image. -/
def State.runwayLength (s : State) : Cm := match s.layout.committed.size with | some z => z.length | none => 0

/-- The claim margin M. -/
def State.margin (s : State) : Cm := s.layout.committed.margin

/-- The position tolerance P. -/
def State.tolerance (s : State) : Cm := s.layout.committed.tolerance

/-- The last reported x of a crane; free for a crane that never reported (notes/assumptions/8.md). -/
def State.craneX (s : State) (c : CraneId) : Cm :=
  match (s.cranes.get c).last with | some (st, _) => st.x | none => Config.unreportedX (craneNum c)

/-- The last reported y of a crane; free for a crane that never reported (notes/assumptions/8.md). -/
def State.craneY (s : State) (c : CraneId) : Cm :=
  match (s.cranes.get c).last with | some (st, _) => st.y | none => Config.unreportedY (craneNum c)

/-- A row entry of an image. -/
def Image.row (img : Image) (r : Nat) : Option RowEntry := img.rows.get? r

/-- The number of positions of a tier (R4). -/
def RowEntry.count (e : RowEntry) : Tier → Nat
  | .bottom => e.b
  | .top => e.b - 1

/-- A slot exists when its row has an entry and its position lies within the count of its tier (R4). -/
def Image.slotExists (img : Image) (a : SlotAddr) : Bool :=
  match img.row a.row with
  | some e => decide (1 ≤ a.pos ∧ a.pos ≤ e.count a.tier)
  | none => false

/-- The trolley position of a slot of a row (R5). -/
def RowEntry.slotY (e : RowEntry) (t : Tier) (p : Nat) : Cm :=
  (e.y0 : Int) + ((p : Int) - 1) * e.pitch + (match t with | .bottom => 0 | .top => ((e.pitch / 2 : Nat) : Int))

/-- The position of a slot (R5). -/
def Image.slotPos (img : Image) (a : SlotAddr) : Option (Cm × Cm) :=
  (img.row a.row).map fun e => ((e.x : Int), e.slotY a.tier a.pos)

/-- The slots of one row in the order of R35. -/
def rowSlots (r : Nat) (e : RowEntry) : List SlotAddr :=
  (List.range e.b).map (fun i => ⟨r, .bottom, i + 1⟩) ++ (List.range (e.b - 1)).map (fun i => ⟨r, .top, i + 1⟩)

/-- Every slot of an image in the order of R35. -/
def Image.slots (img : Image) : List SlotAddr := img.rows.flatMap fun e => rowSlots e.1 e.2

/-- The position of a saddle (R6). -/
def Image.saddlePos (img : Image) (x : Saddle) : Option (Cm × Cm) :=
  img.intake.map fun i => ((i.x : Int), match x with | .ia => (i.yA : Int) | .ib => (i.yB : Int))

/-- The position of a cradle (R7). -/
def State.cradlePos (s : State) (b : BayId) (k : Nat) : Option (Cm × Cm) :=
  match s.bayEntry b, (s.visitOf b).bind (·.cradle k) with
  | some e, some x => some ((e.xk : Int) + x.d, (e.yt : Int))
  | _, _ => none

/-- The position of a place; for a hook, the crane's last reported position (R42). -/
def State.placePos (s : State) : Place → Option (Cm × Cm)
  | .slot a => s.layout.committed.slotPos a
  | .saddle x => s.layout.committed.saddlePos x
  | .hook c => some (s.craneX c, s.craneY c)
  | .cradle b k => s.cradlePos b k

/-- The position of a destination; a SHIFT keeps the y of the crane that carries it out (R99). -/
def State.destPos (s : State) (c : Option CraneId) : Dest → Option (Cm × Cm)
  | .slot a => s.layout.committed.slotPos a
  | .cradle b k => s.cradlePos b k
  | .runway x => some ((x : Int), match c with | some c => s.craneY c | none => 0)
  | .auto => none

/-! ### The Yard Map (R35 to R38) -/

/-- The key of a slot in the slot table: rows in order, bottoms before tops. -/
def SlotAddr.key (a : SlotAddr) : Nat := a.row * 1000 + (match a.tier with | .bottom => 0 | .top => 500) + a.pos

/-- The state of a slot, `none` for FREE. -/
def State.slot (s : State) (a : SlotAddr) : Option SlotState :=
  match s.yard.slots.get? a.key with
  | some e => if e.addr = a then some e.state else none
  | none => none

/-- A slot given a state that is not FREE. -/
def Work.putSlot (w : Work) (a : SlotAddr) (st : SlotState) : Work :=
  { w with yard := { w.yard with slots := w.yard.slots.put a.key ⟨a, st⟩ } }

/-- A slot made FREE. -/
def Work.freeSlot (w : Work) (a : SlotAddr) : Work :=
  { w with yard := { w.yard with slots := w.yard.slots.erase a.key } }

/-- A slot is OCCUPIED (which excludes RESERVED_OUT). -/
def State.isOccupied (s : State) (a : SlotAddr) : Bool := match s.slot a with | some (.occupied _) => true | _ => false

/-- The two supports of top position `t` of row `r` (R38). -/
def supports (r t : Nat) : SlotAddr × SlotAddr := (⟨r, .bottom, t⟩, ⟨r, .bottom, t + 1⟩)

/-- The top slots over bottom position `p` that exist, the lower position first (R38). -/
def coveringSlots (img : Image) (a : SlotAddr) : List SlotAddr :=
  match a.tier with
  | .top => []
  | .bottom => [⟨a.row, .top, a.pos - 1⟩, ⟨a.row, .top, a.pos⟩].filter fun t => img.slotExists t

/-- A top slot covers the bottom coils under it while it is OCCUPIED or RESERVED_IN (R38). -/
def State.covers (s : State) (a : SlotAddr) : Bool :=
  match s.slot a with | some (.occupied _) => true | some (.reservedIn _) => true | _ => false

/-- A bottom slot is covered (R38 (2), (3)). -/
def State.covered (s : State) (a : SlotAddr) : Bool := (coveringSlots s.layout.committed a).any s.covers

/-- The supports of a slot, where it is a top slot, are both OCCUPIED (R38 (1), (4)). -/
def State.supported (s : State) (a : SlotAddr) : Bool :=
  match a.tier with
  | .bottom => true
  | .top => s.isOccupied (supports a.row a.pos).1 && s.isOccupied (supports a.row a.pos).2

/-- reserve-in (R37). -/
def Work.reserveIn (w : Work) (a : SlotAddr) (m : Nat) : Option Work :=
  if w.layout.committed.slotExists a && (w.slot a).isNone && w.supported a then some (w.putSlot a (.reservedIn m)) else none

/-- release-in of the slot that names the move (R37). -/
def Work.releaseIn (w : Work) (a : SlotAddr) (m : Nat) : Work :=
  if w.slot a = some (.reservedIn m) then w.freeSlot a else w

/-- reserve-out (R37). -/
def Work.reserveOut (w : Work) (a : SlotAddr) (m : Nat) : Option Work :=
  match w.slot a with
  | some (.occupied id) => if w.covered a then none else some (w.putSlot a (.reservedOut m id))
  | _ => none

/-- release-out of the slot that names the move (R37). -/
def Work.releaseOut (w : Work) (a : SlotAddr) (m : Nat) : Work :=
  match w.slot a with
  | some (.reservedOut n id) => if n = m then w.putSlot a (.occupied id) else w
  | _ => w

/-- pick-complete; a slot that is not RESERVED_OUT by the move stays as it was (R37). -/
def Work.pickComplete (w : Work) (a : SlotAddr) (m : Nat) : Work :=
  match w.slot a with
  | some (.reservedOut n _) => if n = m then w.freeSlot a else w
  | _ => w

/-- set-complete; a slot that is not RESERVED_IN by the move stays as it was (R37). -/
def Work.setComplete (w : Work) (a : SlotAddr) (m : Nat) (id : MillId) : Work :=
  if w.slot a = some (.reservedIn m) then w.putSlot a (.occupied id) else w

/-- enter (R37). -/
def Work.enterSlot (w : Work) (a : SlotAddr) (id : MillId) : Option Work :=
  if w.layout.committed.slotExists a && (w.slot a).isNone && w.supported a then some (w.putSlot a (.occupied id)) else none

/-- vacate (R37). -/
def Work.vacateSlot (w : Work) (a : SlotAddr) : Option Work :=
  if w.isOccupied a && !(w.covered a) then some (w.freeSlot a) else none

/-- The coil on a saddle (R36). -/
def Yard.onSaddle (y : Yard) : Saddle → Option MillId
  | .ia => y.ia
  | .ib => y.ib

/-- What lies on a saddle, set (R36). -/
def Work.setSaddle (w : Work) (x : Saddle) (id : Option MillId) : Work :=
  match x with
  | .ia => { w with yard := { w.yard with ia := id } }
  | .ib => { w with yard := { w.yard with ib := id } }

/-- The row is protected (R45). -/
def State.isProtected (s : State) (r : Nat) : Bool := s.yard.protect.contains r

/-! ### The queue of moves (R130) -/

/-- The priority of an unfinished move. -/
def State.priorityOf (s : State) (n : Nat) : Nat := match s.findMove n with | some m => m.priority | none => 0

/-- A number placed behind every number of its priority or a higher one. -/
def enqueueBehind (prio : Nat → Nat) (n : Nat) : List Nat → List Nat
  | [] => [n]
  | q :: rest => if prio n ≤ prio q then q :: enqueueBehind prio n rest else n :: q :: rest

/-- A number placed ahead of every number of its priority, behind the higher ones. -/
def enqueueAhead (prio : Nat → Nat) (n : Nat) : List Nat → List Nat
  | [] => [n]
  | q :: rest => if prio n < prio q then q :: enqueueAhead prio n rest else n :: q :: rest

/-- A new move joins the queue (R130 (1)). -/
def Work.joinQueue (w : Work) (n : Nat) : Work :=
  { w with moves := { w.moves with queue := enqueueBehind w.priorityOf n w.moves.queue }, dispatch := true }

/-- Moves return to the queue, together ahead of the others of their priority and in the order listed (R130 (2)). -/
def Work.returnToQueue (w : Work) (ns : List Nat) : Work :=
  { w with
    moves := { w.moves with queue := ns.reverse.foldl (fun q n => enqueueAhead w.priorityOf n q) w.moves.queue }
    dispatch := true }

/-- A move leaves the queue. -/
def Work.leaveQueue (w : Work) (n : Nat) : Work :=
  { w with moves := { w.moves with queue := w.moves.queue.filter (· != n) } }

/-- The MOVE_STATE notice of a move as it stands (R98). -/
def Work.moveNotice (w : Work) (n : Nat) : Work :=
  match w.findMove n with
  | some m => w.notice (.moveState m.number m.kind m.coil m.state m.phase m.crane)
  | none => w

end Sys2Proof.Machine
end

