-- ==== Sys2Proof/Machine/Placement.lean ====
section
/-! DEFINITION. The Placement Unit: the stack rules (R40), the order in which a named slot is checked (R41) and the AUTO search
(R42, R43). -/

namespace Sys2Proof.Machine

/-- A coil as the stack rules see it (R40, R42). -/
structure Load where
  weight : Kg
  od : Nat
  width : Nat
  hot : Bool
deriving DecidableEq, Repr

/-- The coil as it stands. -/
def Coil.load (c : Coil) : Load := ⟨c.used, c.od, c.width, c.isHot⟩

/-- The coil record in a slot. -/
def State.slotCoil (s : State) (a : SlotAddr) : Option Coil :=
  match s.slot a with
  | some (.occupied id) => s.findCoil id
  | some (.reservedOut _ id) => s.findCoil id
  | _ => none

/-- Condition 7 of R40: the weight lies at or under the weight used of both supports; a bottom slot has no supports. -/
def State.weightFits (s : State) (weight : Kg) (a : SlotAddr) : Bool :=
  match a.tier with
  | .bottom => true
  | .top =>
    match s.slotCoil (supports a.row a.pos).1, s.slotCoil (supports a.row a.pos).2 with
    | some l, some r => decide (weight ≤ l.used ∧ weight ≤ r.used)
    | _, _ => false

/-- Condition 8 of R40: the outer diameters of the supports differ by at most 150 mm. -/
def State.supportsLevel (s : State) (a : SlotAddr) : Bool :=
  match a.tier with
  | .bottom => true
  | .top =>
    match s.slotCoil (supports a.row a.pos).1, s.slotCoil (supports a.row a.pos).2 with
    | some l, some r => decide (l.od ≤ r.od + 150 ∧ r.od ≤ l.od + 150)
    | _, _ => false

/-- The first condition of R40 that the slot fails for the coil, in the order of R41; `none` for a candidate. -/
def State.slotFault (s : State) (e : RowEntry) (ld : Load) (a : SlotAddr) : Option Nat :=
  if (s.slot a).isSome then some 1
  else if s.isProtected a.row then some 2
  else if !decide (e.odMin ≤ ld.od ∧ ld.od ≤ e.odMax) then some 3
  else if !decide (ld.width ≤ e.maxWidth) then some 4
  else if decide (a.tier = .top) && ld.hot then some 5
  else if !s.supported a then some 6
  else if !s.weightFits ld.weight a then some 7
  else if !s.supportsLevel a then some 8
  else none

/-- The refusal of a failed condition (R41). -/
def conditionRefusal : Nat → Reason × Byte
  | 1 => (.slotTaken, 0#8)
  | 2 => (.rowProtected, 0#8)
  | 5 => (.coilHot, 0#8)
  | n => (.slotUnfit, BitVec.ofNat 8 n)

/-- The check of a named destination slot (R41): its refusal, or `none` when it passes. -/
def State.namedFault (s : State) (ld : Load) (a : SlotAddr) : Option (Reason × Byte) :=
  if !s.layout.committed.slotExists a then some (.noSuchSlot, 0#8)
  else
    match s.layout.committed.row a.row with
    | some e => (s.slotFault e ld a).map conditionRefusal
    | none => some (.noSuchSlot, 0#8)

/-- Slot `a` is a candidate for the coil (R40). -/
def State.isCandidate (s : State) (ld : Load) (a : SlotAddr) : Bool := (s.namedFault ld a).isNone

/-- What narrows an AUTO search: a row range, a runway interval, top slots left out (R42, R48 (4)). -/
structure Limits where
  range : Option (Nat × Nat) := none
  interval : Option (Cm × Cm) := none
  leaveOut : List SlotAddr := []
deriving DecidableEq, Repr

/-- The row lies in the row range and in the runway interval (R42). -/
def Limits.allowRow (l : Limits) (r : Nat) (e : RowEntry) : Bool :=
  (match l.range with | some (r1, r2) => decide (r1 ≤ r ∧ r ≤ r2) | none => true)
    && (match l.interval with | some (lo, hi) => decide (lo ≤ e.x ∧ (e.x : Int) ≤ hi) | none => true)

/-- The cost of a slot of a row (R43). -/
def slotCost (origin : Cm × Cm) (e : RowEntry) (a : SlotAddr) : Nat :=
  ((e.x : Int) - origin.1).natAbs + (e.slotY a.tier a.pos - origin.2).natAbs

/-- The cheaper of the best so far and a candidate; at equal cost the earlier one stays (R43). -/
def cheaper (best : Option (Nat × SlotAddr)) (cand : Nat × SlotAddr) : Option (Nat × SlotAddr) :=
  match best with
  | some b => if cand.1 < b.1 then some cand else some b
  | none => some cand

/-- The candidates of one row with their costs, in the order of R35. -/
def State.rowCandidates (s : State) (ld : Load) (origin : Cm × Cm) (lim : Limits) (r : Nat) (e : RowEntry) :
    List (Nat × SlotAddr) :=
  if lim.allowRow r e then
    ((rowSlots r e).filter fun a => !lim.leaveOut.contains a && s.isCandidate ld a).map fun a => (slotCost origin e a, a)
  else []

/-- The AUTO search: the candidate of least cost; at equal cost the lowest row, then bottom before top, then the lowest
position, which is the order in which the slots are listed (R42, R43). -/
def State.autoSlot (s : State) (ld : Load) (origin : Cm × Cm) (lim : Limits := {}) : Option SlotAddr :=
  ((s.layout.committed.rows.flatMap fun e => s.rowCandidates ld origin lim e.1 e.2).foldl cheaper none).map (·.2)

end Sys2Proof.Machine
end

