-- ==== Sys2Proof/Machine/Orders.lean ====
section
/-! DEFINITION. Crane orders: sending, replacing, the order a phase needs (R83, R84, R99), and what a move gives up when it leaves
ACTIVE (R104). -/

namespace Sys2Proof.Machine

/-- An order sent to a crane with the next number of its counter; it becomes the outstanding order (R83, R84). -/
def Work.sendOrder (w : Work) (c : CraneId) (o : Order) : Work :=
  let n := nextCount 255 (w.cranes.get c).counter
  let w := w.modCrane c fun r => { r with counter := n, order := some { o with num := n } }
  { w with orders := w.orders ++ [⟨c, n, o.kind, o.x, o.y⟩] }

/-- The outstanding order sent again with the same number (R84). -/
def Work.resend (w : Work) (c : CraneId) : Work :=
  match (w.cranes.get c).order with
  | some o => { w with orders := w.orders ++ [⟨c, o.num, o.kind, o.x, o.y⟩] }
  | none => w

/-- The outstanding order as the one a STOP or ABORT_LOWER replaces. -/
def CraneRec.toReplace (r : CraneRec) : Option Replaced := r.order.map fun o => ⟨o.num, o.kind, o.use⟩

/-- An ABORT_LOWER is outstanding. -/
def CraneRec.aborting (r : CraneRec) : Bool := match r.order with | some o => decide (o.kind = .abortLower) | none => false

/-- A crane's link is alive while its report timer runs (R93; 2-01 stops the timer). -/
def CraneRec.alive (r : CraneRec) : Bool := r.timer

/-- STOP sent at once, replacing the outstanding order; not sent while an ABORT_LOWER is outstanding, which serves for it (R84). -/
def Work.sendStop (w : Work) (c : CraneId) : Work :=
  let r := w.cranes.get c
  if r.aborting then w else w.sendOrder c { num := 0, kind := .stop, use := .halt, replaced := r.toReplace }

/-- STOP sent to a crane whose link is alive (R93, R107, R180, R181). -/
def Work.stopIfAlive (w : Work) (c : CraneId) : Work := if (w.cranes.get c).alive then w.sendStop c else w

/-- STOP sent to every crane whose link is alive. -/
def Work.stopAll (w : Work) : Work := allCranes.foldl (fun w c => w.stopIfAlive c) w

/-- The hook state an ABORT_LOWER returns to: open for a LOWER_GRIP, gripped for a LOWER_SET (R83). -/
def tongsBefore : OrderKind → Option Hook
  | .lowerGrip => some .opened
  | .lowerSet => some .gripped
  | _ => none

/-- The hook state to which an ABORT_LOWER returns when it replaces this order: for another ABORT_LOWER the state to which that one returns
(DEDUCED, notes/assumptions/32.md). -/
def Order.tongsAfterAbort (o : Order) : Option Hook := if o.kind = .abortLower then o.tongs else tongsBefore o.kind

/-- ABORT_LOWER sent at once whatever order is outstanding, replacing it (R84, R105); `drop`: it is sent at a line drop (R167). -/
def Work.sendAbort (w : Work) (c : CraneId) (drop : Bool) : Work :=
  let r := w.cranes.get c
  w.sendOrder c
    { num := 0, kind := .abortLower, use := .halt, replaced := r.toReplace, tongs := r.order.bind Order.tongsAfterAbort, lineDrop := drop }

/-- The ABORT_LOWER of a line drop is outstanding (R105, R142). -/
def CraneRec.dropAborting (r : CraneRec) : Bool :=
  match r.order with | some o => decide (o.kind = .abortLower) && o.lineDrop | none => false

/-- The order of a phase (R99). -/
def phaseOrder : Phase → Option OrderKind
  | .travelSrc | .travelDest => some .travel
  | .lowerGrip => some .lowerGrip
  | .hoist => some .hoist
  | .lowerSet => some .lowerSet
  | .claimSrc | .bayWait | .weigh | .claimDest => none

/-- The position a move's phase travels to or works at: its source before WEIGH, its destination after (R99). -/
def State.phaseTarget (s : State) (m : Move) (ph : Phase) : Option (Cm × Cm) :=
  match ph with
  | .claimSrc | .travelSrc | .lowerGrip | .hoist | .weigh => m.source.bind s.placePos
  | .bayWait | .claimDest | .travelDest | .lowerSet => s.destPos m.crane m.dest

/-- An outstanding order that belongs to an earlier phase of the move: the order of its present phase waits for it (R99). -/
def Order.overtaken (o : Order) (n : Nat) : Order := if o.use = .phase n then { o with former := true } else o

/-- The order of the present phase of an ACTIVE move sent to its crane, when the crane has no outstanding order (R99) and the mode
is not STOPPED (R107); an order of the same move that is still outstanding is from then on no order of its present phase. A TRAVEL carries
its target. -/
def Work.sendPhaseOrder (w : Work) (c : CraneId) (m : Move) : Work :=
  match m.phase with
  | some ph =>
    match phaseOrder ph with
    | some k =>
      if (w.cranes.get c).order.isSome then w.modCrane c fun r => { r with order := r.order.map fun o => o.overtaken m.number }
      else if decide (w.link.mode = .stopped) || !decide (m.state = .active) || m.afterAbort.isSome then w
      else
        let p := if k = .travel then (w.phaseTarget m ph).getD (0, 0) else (0, 0)
        w.sendOrder c { num := 0, kind := k, x := p.1, y := p.2, use := .phase m.number }
    | none => w
  | none => w

/-- The order that has waited for the outstanding order of the crane to be reported (R84, R99): the TRAVEL of a yield, or the order
of the current move's phase. -/
def Work.sendDue (w : Work) (c : CraneId) : Work :=
  if (w.cranes.get c).order.isSome || decide (w.link.mode = .stopped) then w
  else
    match w.runway.yields.get c with
    | some y => w.sendOrder c { num := 0, kind := .travel, x := y.target, y := w.craneY c, use := .yieldTravel }
    | none => match w.currentMove c with | some m => w.sendPhaseOrder c m | none => w

/-- The current move of a crane set; its unexpected-load latch is cleared (R62 (2)). -/
def Work.setCurrent (w : Work) (c : CraneId) (n : Option Nat) : Work :=
  (w.modCrane c fun r => { r with current := n }).modHook c fun h => { h with unexpected := false }

/-- The give-way marks that name `c` as the crane given way to are removed; a QUEUED move that loses its mark starts a Dispatcher
run (R119, R135 (2)). -/
def Work.clearMarksTo (w : Work) (c : CraneId) : Work :=
  let hit (m : Move) : Bool := match m.mark with | some (_, i) => decide (i = c) | none => false
  let woken := w.moves.table.vals.any fun m => hit m && decide (m.state = .queued)
  { w with
    moves := { w.moves with table := w.moves.table.mapVals fun m => if hit m then { m with mark := none } else m }
    dispatch := w.dispatch || woken }

/-- A bay's waiting order without a move (R104, R165). -/
def Work.leaveBayOrders (w : Work) (n : Nat) : Work :=
  { w with bays := w.bays.map fun _ b => { b with waiting := b.waiting.filter (· != n) } }

/-- The set-down lock held by a move is released, and grants are owed (R165). -/
def Work.releaseLock (w : Work) (n : Nat) : Work :=
  { w with
    bays := w.bays.map fun _ b => if b.lock = some n then { b with lock := none } else b
    grant := w.grant.map fun b g => g || decide ((w.bays.get b).lock = some n) }

/-- The crane's waiting request is withdrawn with its timer, and the move's blocker cleared (R104, R113). -/
def Work.withdraw (w : Work) (c : CraneId) (n : Nat) : Work :=
  (match w.runway.waits.get c with
   | some x => if x.move = n then w.setWait c none else w
   | none => w).modMove n fun m => { m with blocker := none }

/-- The hook session of a move is discarded without a result (R73). -/
def Work.discardHook (w : Work) (c : CraneId) : Work := w.modHook c fun h => { h with session := none }

/-- What stops the crane of a move that leaves ACTIVE (R104). -/
inductive Halt
  | stop
  /-- ABORT_LOWER in LOWER_GRIP and LOWER_SET, STOP in any other phase -/
  | abort
  /-- the same for a MOVE_HOLD, which sends nothing further while the ABORT_LOWER of a line drop is outstanding (R142) -/
  | hold
  /-- the order of the cause has been sent already -/
  | already
deriving DecidableEq, Repr

/-- The phase is a lowering. -/
def isLowering : Option Phase → Bool
  | some .lowerGrip => true
  | some .lowerSet => true
  | _ => false

/-- A move leaves ACTIVE (R104): the crane is stopped, the waits withdrawn, a weighing discarded, the set-down lock released, and the
phase kept; BAY_WAIT is kept in place of a lowering while the ABORT_LOWER of a line drop is outstanding (R105, R142), also where the move has been
granted the lock again since (DEDUCED, notes/assumptions/11.md). Its new state is given by the caller. -/
def Work.leaveActive (w : Work) (n : Nat) (how : Halt) : Work :=
  match w.findMove n with
  | none => w
  | some m =>
    match m.crane with
    | none => w
    | some c =>
      let dropped := isLowering m.phase && (w.cranes.get c).dropAborting
      let kept := m.afterAbort.orElse fun _ => if dropped then some .bayWait else m.phase
      let w := match how with
        | .stop => w.sendStop c
        | .abort => if isLowering m.phase then w.sendAbort c false else w.sendStop c
        | .hold => if dropped then w else if isLowering m.phase then w.sendAbort c false else w.sendStop c
        | .already => w
      let w := (((w.withdraw c n).leaveBayOrders n).releaseLock n).clearMarksTo c
      let w := if m.phase = some .weigh then w.discardHook c else w
      w.modMove n fun m => { m with phase := kept, afterAbort := none }

end Sys2Proof.Machine
end

