-- ==== Sys2Proof/Machine/Faults.lean ====
section
/-! DEFINITION. The Fault Monitor: raising a fault with escalation (R176 to R178) and the actions of the four classes (R179 to
R182). -/

namespace Sys2Proof.Machine

/-! ### Free cranes -/

/-- A crane is free (R132). -/
def State.isFree (s : State) (c : CraneId) : Bool :=
  let r := s.cranes.get c
  decide (r.service = .inService) && r.current.isNone && r.fault.isNone && r.park.isEmpty

/-- A crane has become idle: it may take its stack top (R138); when it is free, the waiting requests are retried and the Dispatcher
runs (R113 (3), R135 (3)). -/
def Work.noteIdle (w : Work) (c : CraneId) : Work :=
  { w with pop := true, retry := w.retry || w.isFree c, dispatch := w.dispatch || w.isFree c }

/-- A yield in progress ends with the crane IN (R117 (1), (4)). -/
def Work.endYield (w : Work) (c : CraneId) : Work :=
  if (w.cranes.get c).service = .yielding then
    let w := (w.modCrane c fun r => { r with service := .inService }).setYield c none
    (w.notice (.craneState c .inService .yieldEnd)).noteIdle c
  else w

/-! ### Class 3: move (R179) -/

/-- A fault part opened on a move, with the action of class 3; a QUEUED move, which has no crane to stop, leaves the queue (DEDUCED,
notes/assumptions/49.md). -/
def Work.openMove (w : Work) (n code detail : Nat) (order : Option OrderKind) : Work :=
  let part : FaultPart := { cls := 3, code := code, time := w.clock, detail := detail }
  let w := w.notice (.faultOpened (.move n) 3 code detail none order false)
  match w.findMove n with
  | none => w
  | some m =>
    let w := match m.state with
      | .active => w.leaveActive n .stop
      | .queued => w.leaveQueue n
      | _ => w
    (w.modMove n fun m => { m with state := .faulted, fault := some { part with held := m.causes }, causes := {} }).moveNotice n

/-! ### Class 2: crane (R180) -/

/-- The current move of a crane is held, or keeps the further cause, when its crane has a fault (R180 (3)). -/
def Work.holdForCrane (w : Work) (n : Nat) : Work :=
  match w.findMove n with
  | none => w
  | some m =>
    match m.state with
    | .active =>
      ((w.leaveActive n .already).modMove n fun m =>
        { m with state := .held, causes := { m.causes with crane := true } }).moveNotice n
    | .held => w.modMove n fun m => { m with causes := { m.causes with crane := true } }
    | .faulted => w.modMove n fun m =>
        { m with fault := m.fault.map fun f => { f with held := { f.held with crane := true } } }
    | _ => w

/-- A fault part opened on a crane, with the action of class 2. -/
def Work.openCrane (w : Work) (c : CraneId) (code detail : Nat) (origin : Option Origin) (order : Option OrderKind) : Work :=
  let part : FaultPart := { cls := 2, code := code, time := w.clock, detail := detail, origin := origin }
  let w := w.notice (.faultOpened (.crane c) 2 code detail origin order false)
  let w := w.modCrane c fun r => { r with fault := some part }
  let w := if (w.cranes.get c).service = .out then w
    else ((w.modCrane c fun r => { r with service := .out }).setYield c none).notice (.craneState c .out .fault)
  let w := w.stopIfAlive c
  match (w.cranes.get c).current with
  | some n => w.holdForCrane n
  | none => w

/-! ### Class 1: runway (R181) -/

/-- One move on a crane is held, or keeps the further cause, when the runway freezes (R181). A FAULTED move that has no crane, which log entry 49
allows, keeps the further cause too (DEDUCED, notes/assumptions/49.md). -/
def Work.holdForRunway (w : Work) (n : Nat) : Work :=
  match w.findMove n with
  | none => w
  | some m =>
    match m.state with
    | .active =>
      ((w.leaveActive n .already).modMove n fun m =>
        { m with state := .held, causes := { m.causes with runway := true } }).moveNotice n
    | .held => w.modMove n fun m => { m with causes := { m.causes with runway := true } }
    | .faulted => w.modMove n fun m =>
        { m with fault := m.fault.map fun f => { f with held := { f.held with runway := true } } }
    | _ => w

/-- A number inserted into an ascending list. -/
def insertNum (n : Nat) : List Nat → List Nat
  | [] => [n]
  | k :: rest => if n ≤ k then n :: k :: rest else k :: insertNum n rest

/-- Numbers in ascending order. -/
def sortNums (l : List Nat) : List Nat := l.foldr insertNum []

/-- The numbers of the unfinished moves, ascending. -/
def State.moveNumbers (s : State) : List Nat := sortNums (s.moves.table.vals.map (·.number))

/-- A fault part opened on the runway, with the action of class 1. The yields end in ascending crane number (DESIGN CHOICE,
notes/assumptions/53.md); a FAULTED move without a crane is dealt with like the others (DEDUCED, notes/assumptions/49.md). -/
def Work.openRunway (w : Work) (code detail : Nat) (origin : Option Origin) : Work :=
  let part : FaultPart := { cls := 1, code := code, time := w.clock, detail := detail, origin := origin }
  let w := w.notice (.faultOpened .runway 1 code detail origin none false)
  let w : Work := { w with runway := { w.runway with fault := some part, frozen := true } }
  let w := allCranes.foldl (fun w c => (w.stopIfAlive c).endYield c) w
  w.moveNumbers.foldl (fun w n => w.holdForRunway n) w

/-! ### Class 0: coordinator (R182) -/

/-- The mode changed, with its notice (R200); the working image is discarded when SETUP is left, and kept to its end while a store
write runs (R9, R13). -/
def Work.changeMode (w : Work) (new : Mode) (cause : ModeCause) : Work :=
  let old := w.link.mode
  let w : Work :=
    { w with
      link := { w.link with mode := new }
      layout := if old = .setup && new ≠ .setup && w.layout.writing.isNone then { w.layout with working := none } else w.layout }
  w.notice (.modeChange (some old) new cause)

/-- Every weighing session discarded (R64, R76). -/
def Work.discardSessions (w : Work) : Work :=
  { w with weighing :=
    { cranes := w.weighing.cranes.map fun _ h => { h with session := none }
      bays := w.weighing.bays.map fun _ b => { b with session := none } } }

/-- Every waiting request dropped with its timer (R108, R113). -/
def Work.dropWaits (w : Work) : Work :=
  { w with
    runway := { w.runway with waits := .all none }
    moves := { w.moves with table := w.moves.table.mapVals fun m => { m with blocker := none } } }

/-- A fault part opened on the coordinator: the entry into STOPPED (R182, R204). The yields end in ascending crane number (DESIGN CHOICE,
notes/assumptions/53.md). -/
def Work.openCoord (w : Work) (code detail : Nat) (origin : Option Origin) : Work :=
  let part : FaultPart := { cls := 0, code := code, time := w.clock, detail := detail, origin := origin }
  let w := w.notice (.faultOpened .coordinator 0 code detail origin none false)
  let w := { w with coordFault := some part }.changeMode .stopped .fault
  let w := (w.stopAll.discardSessions).dropWaits
  allCranes.foldl (fun w c => w.endYield c) w

/-! ### Raising (R177) -/

/-- A fault raised on the coordinator: opened, or only reported as REPEATED (R177 (3), R178). -/
def Work.raiseCoord (w : Work) (code detail : Nat) (origin : Origin) (escalated : Bool) : Work :=
  if w.coordFault.isNone then w.openCoord code detail (if escalated then some origin else none)
  else w.notice (.faultOpened .coordinator 0 0 0 (some origin) none true)

/-- A fault raised on the runway: opened, or escalated to the coordinator. -/
def Work.raiseRunway (w : Work) (code detail : Nat) (origin : Origin) (escalated : Bool) : Work :=
  if w.runway.fault.isNone then w.openRunway code detail (if escalated then some origin else none)
  else w.raiseCoord 0 0 origin true

/-- A fault raised on a crane: opened, or escalated to the runway. The notice of a raise that has escalated has the code 00 and carries no
order kind, whatever the origin (DEDUCED, notes/assumptions/37.md). -/
def Work.raiseCrane (w : Work) (c : CraneId) (code detail : Nat) (origin : Origin) (escalated : Bool)
    (order : Option OrderKind) : Work :=
  if (w.cranes.get c).fault.isNone then
    w.openCrane c code detail (if escalated then some origin else none) (if escalated then none else order)
  else w.raiseRunway 0 0 origin true

/-- A fault raised on a move: opened, or escalated to the move's crane. -/
def Work.raiseMove (w : Work) (n code detail : Nat) (origin : Origin) (order : Option OrderKind) : Work :=
  match w.findMove n with
  | none => w
  | some m =>
    if m.fault.isNone then w.openMove n code detail order
    else match m.crane with
      | some c => w.raiseCrane c 0 0 origin true none
      | none => w.raiseRunway 0 0 origin true

/-- A fault raised on its subject with escalation (R177). -/
def Work.raise (w : Work) (sj : Subject) (code detail : Nat) (order : Option OrderKind := none) : Work :=
  let origin : Origin := ⟨code, detail, sj⟩
  match sj with
  | .move n => w.raiseMove n code detail origin order
  | .crane c => w.raiseCrane c code detail origin false order
  | .runway => w.raiseRunway code detail origin false
  | .coordinator => w.raiseCoord code detail origin false

end Sys2Proof.Machine
end

