-- ==== Sys2Proof/Machine/Claims.lean ====
section
/-! DEFINITION. The Runway Claim Table: claim arithmetic (R109), obstacles, fences (R122), shrinking (R115), gap claims (R124),
requests, yields, mutual waits and retries (R111 to R119). -/

namespace Sys2Proof.Machine

/-! ### Claim arithmetic (R109) -/

/-- A span of the runway, both ends included. -/
abbrev Span := Cm × Cm

/-- A span clipped to the runway (R109). Of a span that lies wholly beyond an end of the runway nothing is left, and the result has its lower
bound above its upper one: it holds no point (the model's choice, notes/assumptions/38.md). -/
def State.clip (s : State) (sp : Span) : Span := (max 0 sp.1, min s.runwayLength sp.2)

/-- The stationary claim of a crane at `x` (R109 (1)). -/
def State.stationary (s : State) (c : CraneId) (x : Cm) : Span :=
  s.clip (x - s.halfWidth c - s.margin, x + s.halfWidth c + s.margin)

/-- The travel claim of a crane from its last reported x to `xt` (R109 (2)). -/
def State.travelClaim (s : State) (c : CraneId) (xt : Cm) : Span :=
  s.clip (min (s.craneX c) xt - s.halfWidth c - s.margin, max (s.craneX c) xt + s.halfWidth c + s.margin)

/-- The requested claim: the smallest span that contains the present claim and the travel claim (R109 (3)). -/
def State.requestedClaim (s : State) (c : CraneId) (xt : Cm) : Span :=
  let t := s.travelClaim c xt
  match s.runway.claims.get c with
  | some k => (min k.lo t.1, max k.hi t.2)
  | none => t

/-- The added stretch: the parts of a span outside the present claim (R109 (3)). -/
def addedStretch (present : Option Claim) (sp : Span) : List Span :=
  match present with
  | none => [sp]
  | some k =>
    (if sp.1 < k.lo then [(sp.1, min sp.2 (k.lo - 1))] else []) ++ (if k.hi < sp.2 then [(max sp.1 (k.hi + 1), sp.2)] else [])

/-- Two spans share at least one point. -/
def Span.touches (a b : Span) : Bool := decide (a.1 ≤ b.2 ∧ b.1 ≤ a.2)

/-- The claim of another crane, or its body when it holds none but has a last status (R109 (4)). -/
def State.craneObstacle (s : State) (j : CraneId) : Option Span :=
  match s.runway.claims.get j with
  | some k => some (k.lo, k.hi)
  | none =>
    if (s.cranes.get j).last.isSome then some (s.clip (s.craneX j - s.halfWidth j, s.craneX j + s.halfWidth j)) else none

/-- The obstacles that are cranes, by ascending number. -/
def State.craneObstacles (s : State) (c : CraneId) : List (CraneId × Span) :=
  allCranes.filterMap fun j => if j = c then none else (s.craneObstacle j).map fun sp => (j, sp)

/-- The obstacles that are fences, by ascending number. -/
def State.fenceObstacles (s : State) : List (Nat × Span) := s.runway.fences.map fun e => (e.1, ((e.2.lo : Int), (e.2.hi : Int)))

/-- Every obstacle to a crane (R109 (4)). -/
def State.obstacles (s : State) (c : CraneId) : List Span :=
  (s.craneObstacles c).map (·.2) ++ s.fenceObstacles.map (·.2)

/-- Some stretch touches the span. -/
def stretchTouches (st : List Span) (sp : Span) : Bool := st.any fun x => x.touches sp

/-- The distance from `x` to the nearest point of a span (R112). -/
def spanDistance (x : Cm) (sp : Span) : Nat :=
  if x < sp.1 then (sp.1 - x).natAbs else if sp.2 < x then (x - sp.2).natAbs else 0

/-- The nearest of two touched cranes; at equal distance the earlier one stays (R112). -/
def nearer (x : Cm) (best : Option (CraneId × Span)) (cand : CraneId × Span) : Option (CraneId × Span) :=
  match best with
  | some b => if spanDistance x cand.2 < spanDistance x b.2 then some cand else some b
  | none => some cand

/-- The blocker of a request over an added stretch: 10 + the lowest fence touched, else the nearest crane touched (R112); `none`
when the stretch touches no obstacle. -/
def State.blocker (s : State) (c : CraneId) (st : List Span) : Option Nat :=
  match s.fenceObstacles.find? fun f => stretchTouches st f.2 with
  | some f => some (10 + f.1)
  | none =>
    (((s.craneObstacles c).filter fun o => stretchTouches st o.2).foldl (nearer (s.craneX c)) none).map fun o => craneNum o.1

/-! ### Fences and shrinking -/

/-- A fence touches the claim of some crane (R121). -/
def State.fenceTouched (s : State) (f : Fence) : Bool :=
  allCranes.any fun c =>
    match s.runway.claims.get c with | some k => Span.touches ((f.lo : Int), (f.hi : Int)) (k.lo, k.hi) | none => false

/-- The PENDING fences that no claim touches any longer become ACTIVE, in ascending number (R122). -/
def Work.testFences (w : Work) : Work :=
  w.runway.fences.foldl (fun w e =>
    if decide (e.2.state = .pending) && !w.fenceTouched e.2 then
      { w with runway := { w.runway with fences := w.runway.fences.put e.1 { e.2 with state := .active } } }.notice
        (.fenceState e.1 e.2.lo e.2.hi .active)
    else w) w

/-- A claim shrinks to the part of the stationary claim at `x` within it; it stays as it stands when that part is empty (R115). The fences are
not yet tested; `none` where the claim does not shrink, as in STOPPED and while the runway is frozen (R126). -/
def Work.narrowClaim (w : Work) (c : CraneId) (x : Cm) : Option Work :=
  if w.runway.frozen || decide (w.link.mode = .stopped) then none
  else
    match w.runway.claims.get c with
    | none => none
    | some k =>
      let st := w.stationary c x
      let lo := max k.lo st.1
      let hi := min k.hi st.2
      if lo ≤ hi then
        let w := w.setClaim c (some ⟨lo, hi, .stationary⟩)
        some { w with retry := true, dispatch := true }
      else none

/-- A claim shrinks at a completion, and the PENDING fences are tested (R115, R122). -/
def Work.shrinkClaim (w : Work) (c : CraneId) (x : Cm) : Work :=
  match w.narrowClaim c x with
  | some w => w.testFences
  | none => w

/-- The west end of the gap claim: the lowest x for which [x, lo − 1] touches no obstacle (R124). -/
def gapWest (obs : List Span) (lo : Cm) : Cm :=
  if lo ≤ 0 then lo
  else obs.foldl (fun x o => if Span.touches (0, lo - 1) o then max x (min o.2 (lo - 1) + 1) else x) 0

/-- The east end of the gap claim: the highest x for which [hi + 1, x] touches no obstacle (R124). -/
def gapEast (obs : List Span) (length hi : Cm) : Cm :=
  if length ≤ hi then hi
  else obs.foldl (fun x o => if Span.touches (hi + 1, length) o then min x (max o.1 (hi + 1) - 1) else x) length

/-- The gap claim of a crane that holds a claim (R124); none is made in STOPPED (R126). -/
def Work.gapClaim (w : Work) (c : CraneId) : Work :=
  if w.link.mode = .stopped then w
  else
    match w.runway.claims.get c with
    | none => w
    | some k => w.setClaim c (some ⟨gapWest (w.obstacles c) k.lo, gapEast (w.obstacles c) w.runwayLength k.hi, .gap⟩)

/-! ### Granting and refusing a request -/

/-- The travel phase that follows a CLAIM phase (R97). -/
def travelAfter : Option Phase → Phase
  | some .claimSrc => .travelSrc
  | _ => .travelDest

/-- A request is granted: the claim becomes the requested span, the wait ends, and the move enters its TRAVEL phase (R111). -/
def Work.grantClaim (w : Work) (c : CraneId) (n : Nat) (sp : Span) : Work :=
  let w := (w.setClaim c (some ⟨sp.1, sp.2, .travel⟩)).setWait c none
  let w := (w.clearMarksTo c).modMove n fun m => { m with blocker := none, phase := some (travelAfter m.phase) }
  let w := match w.findMove n with
    | some m => if m.phase = some Phase.travelDest then w.modHook c fun h => { h with unexpected := false } else w
    | none => w
  match w.findMove n with
  | some m => w.sendPhaseOrder c m
  | none => w

/-- The yield target of crane `j` for the requested span of crane `i` (R116), with `east`: j lies east of i. -/
def State.yieldTarget (s : State) (j : CraneId) (east : Bool) (sp : Span) : Cm :=
  if east then max (sp.2 + 1 + s.halfWidth j + s.margin + s.tolerance) (s.craneX j)
  else min (sp.1 - 1 - s.halfWidth j - s.margin - s.tolerance) (s.craneX j)

/-- Conditions (1) to (3) of R116. -/
def State.mayYield (s : State) (j : CraneId) : Bool := s.isFree j && (s.hookCoil j).isNone && !s.runway.frozen

/-- Condition (4) of R116: the target fits. -/
def State.yieldFits (s : State) (j : CraneId) (x : Cm) : Bool :=
  decide (0 ≤ x - s.halfWidth j - s.margin) && decide (x + s.halfWidth j + s.margin ≤ s.runwayLength)
    && (s.obstacles j).all fun o => !stretchTouches (addedStretch (s.runway.claims.get j) (s.requestedClaim j x)) o

/-- The yield of `j` for `i` is made (R116). -/
def Work.makeYield (w : Work) (i j : CraneId) (x : Cm) : Work :=
  let sp := w.requestedClaim j x
  let w := (w.setClaim j (some ⟨sp.1, sp.2, .travel⟩)).setYield j (some ⟨i, x⟩)
  let w := w.modCrane j fun r => { r with service := .yielding }
  (w.notice (.craneState j .yielding .yield)).sendDue j

/-- The neighbour named by a blocker, with whether it lies east (R112 (1)). -/
def neighbourBlocker (i : CraneId) (blocker : Nat) : Option (CraneId × Bool) :=
  match craneOf blocker with
  | none => none
  | some j => if eastOf i = some j then some (j, true) else if westOf i = some j then some (j, false) else none

/-- The yield of the blocking neighbour is made when its conditions hold (R112 (1), R116); `none` when it is not made. -/
def Work.tryYield (w : Work) (i : CraneId) (sp : Span) (blocker : Nat) : Option Work :=
  match neighbourBlocker i blocker with
  | none => none
  | some (j, east) =>
    let x := w.yieldTarget j east sp
    if w.mayYield j && w.yieldFits j x then some (w.makeYield i j x) else none

/-- The cranes whose moves wait on each other: the crane `i` waits with the result as blocker and that crane's move waits with `i` as
blocker (R118). -/
def State.mutualWith (s : State) (i : CraneId) : Option CraneId :=
  match s.runway.waits.get i with
  | none => none
  | some x =>
    match craneOf x.blocker with
    | none => none
    | some j =>
      match s.runway.waits.get j with
      | some y => if y.blocker = craneNum i then some j else none
      | none => none

/-- The crane whose move gives way, of two that wait on each other (R118). -/
def State.givesWay (s : State) (i j : CraneId) : CraneId :=
  match (s.hookCoil i).isSome, (s.hookCoil j).isSome with
  | true, false => j
  | false, true => i
  | _, _ =>
    let p (c : CraneId) : Nat := match s.currentMove c with | some m => m.priority | none => 0
    if p i < p j then i
    else if p j < p i then j
    else if craneNum i < craneNum j then j else i

/-- The move of crane `j` gives way to that of crane `i` by returning to the queue (R119). -/
def Work.giveWay (w : Work) (j i : CraneId) : Work :=
  match (w.cranes.get j).current with
  | none => w
  | some n =>
    let w := ((w.withdraw j n).clearMarksTo j).modMove n fun m => { m with state := .queued, crane := none }
    let w := ((w.returnToQueue [n]).moveNotice n).setCurrent j none
    (w.modMove n fun m => { m with mark := some (j, i) }).noteIdle j

/-- At a refusal after the yield step: in a mutual wait, a move without a coil on its hook gives way (R112 (2), R118, R119). -/
def Work.mutualStep (w : Work) (i : CraneId) : Work :=
  match w.mutualWith i with
  | none => w
  | some j =>
    let loser := w.givesWay i j
    let winner := if loser = i then j else i
    if (w.hookCoil loser).isSome then w else w.giveWay loser winner

/-- A request is refused: the wait is entered or keeps its place, with the blocker found (R112). -/
def Work.refuseClaim (w : Work) (c : CraneId) (n : Nat) (sp : Span) (blocker : Nat) (old : Option Wait) : Work :=
  let x : Wait := match old with
    | some o => { o with blocker := blocker }
    | none => { move := n, lo := sp.1, hi := sp.2, blocker := blocker, since := w.clock, began := w.eventNo }
  let w := (w.setWait c (some x)).modMove n fun m => { m with blocker := some blocker }
  match w.tryYield c sp blocker with
  | some w => w
  | none => w.mutualStep c

/-- A request tried (R111, R112); `old` is the waiting request at a retry. -/
def Work.tryClaim (w : Work) (c : CraneId) (n : Nat) (sp : Span) (old : Option Wait) : Work :=
  match w.blocker c (addedStretch (w.runway.claims.get c) sp) with
  | none => w.grantClaim c n sp
  | some b => w.refuseClaim c n sp b old

/-- A move that has entered CLAIM_SRC or CLAIM_DEST requests its claim (R111); no request is made in STOPPED or while the runway is
frozen (R126). -/
def Work.requestClaim (w : Work) (c : CraneId) (n : Nat) : Work :=
  if w.runway.frozen || decide (w.link.mode = .stopped) then w
  else
    match w.findMove n with
    | none => w
    | some m =>
      match m.phase.bind fun ph => w.phaseTarget m ph with
      | none => w
      | some p => w.tryClaim c n (w.requestedClaim c p.1) none

/-! ### Retries (R113) -/

/-- One crane put into the order of waits: by the event of the first refusal, then by number. -/
def insertWait (e : Nat × CraneId) : List (Nat × CraneId) → List (Nat × CraneId)
  | [] => [e]
  | f :: rest =>
    if e.1 < f.1 || (decide (e.1 = f.1) && decide (craneNum e.2 < craneNum f.2)) then e :: f :: rest
    else f :: insertWait e rest

/-- The waiting cranes in the order of their waits. -/
def State.waitOrder (s : State) : List CraneId :=
  ((allCranes.filterMap fun c => (s.runway.waits.get c).map fun x => (x.began, c)).foldr insertWait []).map (·.2)

/-- One waiting request tried again, if it still waits. -/
def Work.retryOne (w : Work) (c : CraneId) : Work :=
  match w.runway.waits.get c with
  | some x => w.tryClaim c x.move (x.lo, x.hi) (some x)
  | none => w

/-- Every waiting request tried again, one after another (R113). -/
def Work.retryAll (w : Work) : Work :=
  if w.runway.frozen || decide (w.link.mode = .stopped) then w
  else w.waitOrder.foldl (fun w c => w.retryOne c) w

end Sys2Proof.Machine
end

