-- ==== Sys2Proof/Machine/Bays.lean ====
section
/-! DEFINITION. The Bay Controllers: axle arithmetic and cradle choice (R153 to R155), bay sessions (R64, R74), visit states, plan
entries (R160, R161), the tests at the end of an event (R162, R174) and the set-down lock (R165). -/

namespace Sys2Proof.Machine

/-! ### Axle arithmetic (R153 to R155) -/

/-- The axle share of a coil of weight `m` at distance `d` on a trailer of length `l` (R153 (1)). -/
def axleShare (m : Kg) (d l : Nat) : Kg := (2 * m * d + l) / (2 * l)

/-- The kingpin share (R153 (2)). -/
def kingpinShare (m : Kg) (d l : Nat) : Kg := m - axleShare m d l

/-- The coil that a cradle carries or awaits: the LOADED coil, or the coil of the reserving move (R154). -/
def State.cradleCoil (s : State) (k : Cradle) : Option Coil :=
  match k.state with
  | .free => none
  | .reserved n => (s.findMove n).bind s.moveCoil
  | .loaded id _ => s.findCoil id

/-- The coils on LOADED and RESERVED cradles with their distances, the coil `skip` left out (R154). -/
def State.visitLoads (s : State) (v : Visit) (skip : MillId) : List (Kg × Nat) :=
  v.cradles.filterMap fun k =>
    match s.cradleCoil k with
    | some c => if c.id = skip then none else some (c.used, k.d)
    | none => none

/-- The tare of the gross test: measured, or the sum of the tare shares (R154 (3)). -/
def Visit.tareUsed (v : Visit) : Kg := match v.tare with | some t => t.1 | none => (v.tk : Int) + v.ta

/-- The kingpin total K′ of a set of loads (R155). -/
def Visit.kingpinTotal (v : Visit) (loads : List (Kg × Nat)) : Kg := v.tk + (loads.map fun x => kingpinShare x.1 x.2 v.l).sum

/-- The axle total A′ of a set of loads (R155). -/
def Visit.axleTotal (v : Visit) (loads : List (Kg × Nat)) : Kg := v.ta + (loads.map fun x => axleShare x.1 x.2 v.l).sum

/-- The axle check of a set of loads (R154). -/
def Visit.axleCheck (v : Visit) (loads : List (Kg × Nat)) : Bool :=
  decide (v.kingpinTotal loads ≤ v.kMax) && decide (v.axleTotal loads ≤ v.aMax)
    && decide (v.tareUsed + (loads.map (·.1)).sum ≤ v.gMax)

/-- A cradle fits a coil (R155). -/
def Cradle.fits (k : Cradle) (c : Coil) : Bool := decide (c.od ≤ k.maxOd ∧ c.used ≤ k.maxWeight)

/-- The coil passes the axle check at the cradle (R154). -/
def State.axlePasses (s : State) (v : Visit) (k : Cradle) (c : Coil) : Bool :=
  v.axleCheck (s.visitLoads v c.id ++ [(c.used, k.d)])

/-- The score of a cradle for a coil (R155). -/
def State.cradleScore (s : State) (v : Visit) (k : Cradle) (c : Coil) : Int :=
  let loads := s.visitLoads v c.id ++ [(c.used, k.d)]
  max (1000 * v.kingpinTotal loads / v.kMax) (1000 * v.axleTotal loads / v.aMax)

/-- The outcome of a cradle choice (R155). -/
inductive CradleChoice
  | chosen (k : Nat)
  | noFit
  | overload
deriving DecidableEq, Repr

/-- The AUTO choice among the FREE cradles: the lowest score, then the lowest number (R155). -/
def State.chooseCradle (s : State) (v : Visit) (c : Coil) : CradleChoice :=
  let fitting := (v.cradles.zipIdx 1).filter fun x => decide (x.1.state = .free) && x.1.fits c
  if fitting.isEmpty then .noFit
  else
    let best := (fitting.filter fun x => s.axlePasses v x.1 c).foldl
      (fun (b : Option (Int × Nat)) x =>
        let sc := s.cradleScore v x.1 c
        match b with
        | some y => if sc < y.1 then some (sc, x.2) else some y
        | none => some (sc, x.2)) none
    match best with
    | some y => .chosen y.2
    | none => .overload

/-! ### Sessions (R64, R68, R74) -/

/-- A scale state that fails a session (R68 (4)). -/
def scaleBad : ScaleState → Bool
  | .warmup | .over | .saturated => true
  | .ready | .none => false

/-- The SCALE_STATE notice of a bay as it stands (R63). -/
def Work.scaleNotice (w : Work) (b : BayId) (kind : Option SessionKind) (cause : ScaleCause) (value : Option Kg) : Work :=
  w.notice (.scaleState b (w.weighing.bays.get b).state kind cause value)

/-- A session starts at a bay, replacing the one it has; it fails at once while the scale state is bad (R64, R68, R75); no start is
taken in STOPPED (R64). -/
def Work.startBay (w : Work) (b : BayId) (kind : SessionKind) (entry : Option Nat) : Work :=
  if w.link.mode = .stopped then w
  else
    let bad := scaleBad (w.weighing.bays.get b).state
    let w := w.modScale b fun x =>
      { x with session := some { kind := kind, entry := entry, stage := if bad then .waitReady else .settle, started := w.clock } }
    if bad then w.scaleNotice b (some kind) .failed none else w

/-- The session of a bay is discarded without a notice (R76). -/
def Work.discardBay (w : Work) (b : BayId) : Work := w.modScale b fun x => { x with session := none }

/-- A session of a kind exists at the bay. -/
def State.hasSession (s : State) (b : BayId) (kind : SessionKind) : Bool :=
  match (s.weighing.bays.get b).session with | some x => decide (x.kind = kind) | none => false

/-- A ZERO session of the bay is abandoned (R78); the notice names the session that ends by it, kind ZERO (DEDUCED,
notes/assumptions/37.md). -/
def Work.abandonZero (w : Work) (b : BayId) : Work :=
  if w.hasSession b .zero then (w.discardBay b).scaleNotice b (some .zero) .zeroAbandoned none else w

/-! ### Visits and plan entries -/

/-- The visit of a bay takes a new state, with its notice (R148). -/
def Work.setVisitState (w : Work) (b : BayId) (st : VisitState) (cause : TruckCause) (check : Option Verification := none) : Work :=
  match w.visitOf b with
  | none => w
  | some v => (w.modVisit b fun v => { v with state := st }).notice (.truckState b v.truck (some st) cause check)

/-- The visit of a bay is removed (R171). -/
def Work.removeVisit (w : Work) (b : BayId) : Work :=
  match w.visitOf b with
  | none => w
  | some v => (w.modBay b fun x => { x with visit := none }).notice (.truckState b v.truck none .departed none)

/-- The visit becomes DEPARTING, and is removed at once when IN_POSITION is already deasserted (R171). -/
def Work.depart (w : Work) (b : BayId) (cause : TruckCause) : Work :=
  let w := w.setVisitState b .departing cause
  if (w.bays.get b).inPosition then w else w.removeVisit b

/-- A plan entry keeps its place in the plan until it ends (R149). -/
def EntryState.live : EntryState → Bool
  | .planned | .moving | .onTruck => true
  | .overweight | .withdrawn => false

/-- The entry still waits for its coil: PLANNED or MOVING. -/
def EntryState.pending : EntryState → Bool
  | .planned | .moving => true
  | _ => false

/-- The PLAN_ENTRY notice of entry `i`, counted from 1 (R160). A delta that the entry has recorded is carried in each of its notices, whatever
the cause: R208 gives the field as a delta or absent, and R166 names it for SETDOWN only (DEDUCED, notes/assumptions/42.md). -/
def Work.entryNotice (w : Work) (b : BayId) (i : Nat) (cause : EntryCause) : Work :=
  match w.visitOf b with
  | none => w
  | some v =>
    match if i = 0 then none else v.plan[i - 1]? with
    | some e => w.notice (.planEntry b v.truck i e.coil e.cradle e.state cause e.delta)
    | none => w

/-- Entry `i` of the plan, counted from 1, changed. -/
def Work.modEntry (w : Work) (b : BayId) (i : Nat) (f : Entry → Entry) : Work :=
  w.modVisit b fun v => { v with plan := v.plan.mapIdx fun j e => if j + 1 = i then f e else e }

/-- The number of the entry that satisfies a test, counted from 1. -/
def Visit.entryWhere (v : Visit) (p : Entry → Bool) : Option Nat := (v.plan.findIdx? p).map (· + 1)

/-- The entry of a TO_TRUCK move that still waits for its coil. -/
def State.entryOf (s : State) (b : BayId) (n : Nat) : Option Nat :=
  (s.visitOf b).bind fun v => v.entryWhere fun e => decide (e.move = n) && e.state.pending

/-- A cradle of a bay's visit given a new state. -/
def Work.setCradle (w : Work) (b : BayId) (k : Nat) (st : CradleState) : Work := w.modVisit b fun v => v.setCradle k st

/-- The test of R162 or R174 is owed at the end of the event. -/
def Work.oweTest (w : Work) (b : BayId) : Work := { w with test := w.test.set b true }

/-- Grants at the bay are owed at the end of the event (R165). -/
def Work.oweGrant (w : Work) (b : BayId) : Work := { w with grant := w.grant.set b true }

/-- A TO_TRUCK move gives up its cradle (R161): the cradle FREE, the entry ended with its notice, the coil's visit field cleared, the
waiting order left; the test of R162 is owed. -/
def Work.giveUpCradle (w : Work) (n : Nat) (overweight : Bool) : Work :=
  match w.findMove n with
  | none => w
  | some m =>
    match m.dest with
    | .cradle b k =>
      let w := if ((w.visitOf b).bind (·.cradle k)).map (·.state) = some (.reserved n) then w.setCradle b k .free else w
      let w := match w.entryOf b n with
        | some i =>
          (w.modEntry b i fun e => { e with state := if overweight then .overweight else .withdrawn }).entryNotice b i
            (if overweight then .overweight else .withdrawn)
        | none => w
      let w := match m.coil with
        | some id => w.modCoil id fun c => { c with visit := none }
        | none => w
      (w.leaveBayOrders n).oweTest b
    | _ => w

/-! ### The tests at the end of an event (R162, R174) -/

/-- Some UNLOAD move of the bay's visit is unfinished (R174). -/
def State.unloadsLeft (s : State) (b : BayId) : Bool :=
  s.moves.table.vals.any fun m =>
    decide (m.kind = .unload) && (match m.source with | some (.cradle b' _) => decide (b' = b) | _ => false)

/-- The visit enters VERIFYING, and its GROSS session starts when the bay is secured (R170). -/
def Work.startVerify (w : Work) (b : BayId) : Work := if (w.bays.get b).secured then w.startBay b .gross none else w

/-- The test of R162 for a LOADING visit, or of R174 for an UNLOADING one; no visit changes state in STOPPED (R175). -/
def Work.bayTest (w : Work) (b : BayId) : Work :=
  if w.link.mode = .stopped then w
  else
    match w.visitOf b with
    | none => w
    | some v =>
      match v.state with
      | .loading =>
        if (v.plan.all fun e => !e.state.pending) && !w.hasSession b .setdown then
          (w.setVisitState b .verifying .loadedAll).startVerify b
        else w
      | .unloading =>
        if w.unloadsLeft b then w
        else if v.cradles.all fun k => decide (k.state = .free) then w.depart b .unloaded
        else w.setVisitState b .discrepancy .unloadCancelled
      | _ => w

/-- The tests owed by the event, bay by bay. -/
def Work.bayTests (w : Work) : Work :=
  allBays.foldl (fun w b => if w.test.get b then { w with test := w.test.set b false }.bayTest b else w) w

/-! ### The set-down lock (R165) -/

/-- The bay whose cradle a move lowers at: the source of an UNLOAD, the destination of a TO_TRUCK move. -/
def Move.cradleBay (m : Move) : Option BayId :=
  match m.kind, m.source, m.dest with
  | .unload, some (.cradle b _), _ => some b
  | .unload, _, _ => none
  | _, _, .cradle b _ => some b
  | _, _, _ => none

/-- A move joins the end of its bay's waiting order; grants are owed. -/
def Work.joinBay (w : Work) (n : Nat) : Work :=
  match (w.findMove n).bind (·.cradleBay) with
  | none => w
  | some b => (w.modBay b fun x => { x with waiting := x.waiting.filter (· != n) ++ [n] }).oweGrant b

/-- The lock may be granted to a move of this kind: conditions (a) to (e) of R165. -/
def State.grantable (s : State) (b : BayId) (m : Move) : Bool :=
  let x := s.bays.get b
  x.lock.isNone && decide (s.link.mode = .run) && x.secured && !s.hasSession b .setdown
    && (match x.visit with
        | some v =>
          (decide (m.kind = .toTruck) && decide (v.state = .loading)) || (decide (m.kind = .unload) && decide (v.state = .unloading))
        | none => false)

/-- The head of the bay's waiting order is granted the lock when it may be, and enters its lowering (R165). -/
def Work.tryGrant (w : Work) (b : BayId) : Work :=
  match (w.bays.get b).waiting with
  | [] => w
  | n :: rest =>
    match w.findMove n with
    | none => w
    | some m =>
      if w.grantable b m then
        let w := w.modBay b fun x => { x with lock := some n, waiting := rest }
        let w := w.modMove n fun m => { m with phase := some (if m.kind = .unload then .lowerGrip else .lowerSet) }
        match m.crane, w.findMove n with
        | some c, some m => w.sendPhaseOrder c m
        | _, _ => w
      else w

/-- The grants owed by the event, bay by bay. -/
def Work.grants (w : Work) : Work :=
  allBays.foldl (fun w b => if w.grant.get b then { w with grant := w.grant.set b false }.tryGrant b else w) w

end Sys2Proof.Machine
end

