-- ==== Sys2Proof/Machine/Phases.lean ====
section
/-! DEFINITION. The phases of a move: entering one (R99, R106, R111, R165), resolving an AUTO destination at a crane (R55), returning to
ACTIVE (R106), the park stack (R138), and the retries and stack tops owed inside an event (R113, R135). -/

namespace Sys2Proof.Machine

/-- A hook weighing starts for the move's crane (R64, R69); no start is taken in STOPPED. -/
def Work.startHook (w : Work) (c : CraneId) (n : Nat) : Work :=
  if w.link.mode = .stopped then w
  else w.modHook c fun h => { h with session := some { kind := .hook, move := some n, started := w.clock } }

/-- A slot found for a move's coil is reserved in and becomes the destination, with its SLOT_REALLOCATED notice (R53, R55, R120). -/
def Work.reallocate (w : Work) (m : Move) (k : Coil) (old : Option Dest) (a : SlotAddr) : Option Work :=
  (w.reserveIn a m.number).map fun w =>
    (w.modMove m.number fun m => { m with dest := .slot a }).notice (.slotReallocated m.number m.coil old a k.used)

/-- The AUTO search for a coil from the crane's last reported position (R53, R55, R120). -/
def State.slotFrom (s : State) (c : CraneId) (k : Coil) (lim : Limits := {}) : Option SlotAddr :=
  s.autoSlot k.load (s.craneX c, s.craneY c) lim

/-- The AUTO search for a move's coil, and the slot found taken as its destination; `none` when no slot is found. -/
def Work.resolveSlot (w : Work) (c : CraneId) (n : Nat) (old : Option Dest) : Option Work :=
  match w.findMove n with
  | none => none
  | some m =>
    match w.moveCoil m with
    | none => none
    | some k =>
      match w.slotFrom c k with
      | none => none
      | some a => w.reallocate m k old a

/-- The order of the move's present phase is sent, when it has one (R99). -/
def Work.sendOf (w : Work) (c : CraneId) (n : Nat) : Work :=
  match w.findMove n with
  | some m => w.sendPhaseOrder c m
  | none => w

/-- CLAIM_DEST is entered: the claim is requested (R111); a destination still unresolved is resolved first, as R55 gives
(DEDUCED, notes/assumptions/19.md). -/
def Work.enterClaimDest (w : Work) (c : CraneId) (n : Nat) : Work :=
  if (w.findMove n).map (·.dest) = some .auto then
    match w.resolveSlot c n none with
    | some w => w.requestClaim c n
    | none => w.raise (.move n) 3 0
  else w.requestClaim c n

/-- A phase other than CLAIM_SRC and TRAVEL_SRC clears the unexpected-load latch of the crane (R62 (2)). -/
def Work.leaveSource (w : Work) (c : CraneId) (ph : Phase) : Work :=
  if ph = .claimSrc ∨ ph = .travelSrc then w else w.modHook c fun h => { h with unexpected := false }

/-- An ACTIVE move enters a phase (R97, R99). -/
def Work.enterPhase (w : Work) (c : CraneId) (n : Nat) (ph : Phase) : Work :=
  let w := (w.modMove n fun m => { m with phase := some ph }).leaveSource c ph
  match ph with
  | .claimSrc => w.requestClaim c n
  | .claimDest => w.enterClaimDest c n
  | .weigh => w.startHook c n
  | .bayWait => w.joinBay n
  | .travelSrc | .travelDest | .lowerGrip | .hoist | .lowerSet => w.sendOf c n

/-- The first phase of a kind (R97, R136). -/
def firstPhase : MoveKind → Phase
  | .putDown => .weigh
  | .shift => .claimDest
  | .store | .relocate | .toTruck | .unload => .claimSrc

/-- Where a move that returns to ACTIVE starts: its kept phase, or BAY_WAIT for a kept lowering at a cradle (R106). -/
def Move.restart (m : Move) : Phase :=
  match m.phase, m.source, m.dest with
  | some .lowerGrip, some (.cradle _ _), _ => .bayWait
  | some .lowerSet, _, .cradle _ _ => .bayWait
  | some ph, _, _ => ph
  | none, _, _ => firstPhase m.kind

/-- A move returns to ACTIVE at the start of its kept phase, with its notice (R106). -/
def Work.activate (w : Work) (n : Nat) : Work :=
  match w.findMove n with
  | none => w
  | some m =>
    match m.crane with
    | none => w
    | some c =>
      let w := w.modMove n fun m => { m with state := .active, phase := some m.restart, causes := {} }
      (w.moveNotice n).enterPhase c n m.restart

/-! ### The park stack (R138) -/

/-- The crane may take the top of its park stack. -/
def State.mayPop (s : State) (c : CraneId) : Bool :=
  let r := s.cranes.get c
  r.current.isNone && !r.park.isEmpty && decide (r.service = .inService) && r.fault.isNone && decide (s.link.mode = .run)
    && !s.runway.frozen

/-- The top of the park stack becomes the current move, ACTIVE at CLAIM_SRC. -/
def Work.popStack (w : Work) (c : CraneId) : Work :=
  match (w.cranes.get c).park.getLast? with
  | none => w
  | some n =>
    let w := (w.modCrane c fun r => { r with park := r.park.dropLast }).setCurrent c (some n)
    let w := (w.modMove n fun m => { m with state := .active, phase := some .claimSrc }).moveNotice n
    w.enterPhase c n .claimSrc

/-- The retries and then the stack tops that the event owes, until none is owed or the fuel ends: every round ends a wait, empties a
stack or clears a flag. -/
def Work.settleClaims : Nat → Work → Work
  | 0, w => w
  | k + 1, w =>
    if w.retry then settleClaims k (Work.retryAll { w with retry := false })
    else if w.pop then
      match allCranes.find? w.mayPop with
      | some c => settleClaims k (w.popStack c)
      | none => settleClaims k { w with pop := false }
    else w

/-- Rounds enough for the waits and stacks of four cranes. -/
def settleFuel : Nat := 64

end Sys2Proof.Machine
end

