-- ==== Sys2Proof/Machine/Finish.lean ====
section
/-! DEFINITION. The end of a move: its record removed (R103, R128), its reservations released (R39), its cancellation with its dig-outs
(R51, R147). -/

namespace Sys2Proof.Machine

/-- A number leaves every waits-for list; a QUEUED move whose list it empties becomes dispatchable (R50, R131). A dig-out that outlives its main move
is from then on an ordinary RELOCATE, whose main move no later number is (R147). -/
def Work.leaveLists (w : Work) (n : Nat) : Work :=
  let woken := w.moves.table.vals.any fun m => decide (m.state = .queued) && decide (m.waits = [n])
  { w with
    moves := { w.moves with table := w.moves.table.mapVals fun m =>
      { m with waits := m.waits.filter (· != n), digFor := m.digFor.filter (· != n) } }
    dispatch := w.dispatch || woken }

/-- The fault part of a move that finishes is closed with it (R189). -/
def Work.closeEnded (w : Work) (m : Move) : Work :=
  match m.fault with
  | some f => w.notice (.faultCleared (.move m.number) f.cls f.code f.detail .ended)
  | none => w

/-- A move's record leaves the Move Table, and its number the queue (R128). -/
def Work.dropMove (w : Work) (n : Nat) : Work :=
  { w with
    moves := { w.moves with
      table := w.moves.table.filter fun e => e.2.number != n
      queue := w.moves.queue.filter (· != n) } }

/-- The crane whose current move has ended is left without one (R103 (4), R147 (5)). -/
def Work.freeCrane (w : Work) (c : CraneId) (n : Nat) : Work :=
  if (w.cranes.get c).current = some n then ((w.setCurrent c none).clearMarksTo c).noteIdle c else w

/-- A move finishes, DONE or CANCELLED: a request it still has waiting is withdrawn (R113), then the steps of R103 (1) to (4) and of R147 (2)
to (5). -/
def Work.endMove (w : Work) (n : Nat) (st : MoveState) : Work :=
  match w.findMove n with
  | none => w
  | some m =>
    let w := match m.crane with
      | some c => w.withdraw c n
      | none => w
    let w := match m.coil with
      | some id => w.modCoil id fun k => { k with active := if k.active = some n then none else k.active }
      | none => w
    let w := (w.leaveLists n).closeEnded m
    let w := (w.notice (.moveState n m.kind m.coil st none none)).dropMove n
    match m.crane with
    | some c => w.freeCrane c n
    | none => w

/-- The picking move of a cradle is removed when it is this move (R174). -/
def Work.unpick (w : Work) (b : BayId) (k n : Nat) : Work :=
  match (w.visitOf b).bind (·.cradle k) with
  | some x =>
    match x.state with
    | .loaded id (some p) => if p = n then w.setCradle b k (.loaded id none) else w
    | _ => w
  | none => w

/-- Every reservation of a move that ends before its set is released (R39, R147 (1), R161, R174). -/
def Work.releaseAll (w : Work) (m : Move) : Work :=
  let w := match m.source with
    | some (.slot a) => w.releaseOut a m.number
    | some (.cradle b k) => (w.unpick b k m.number).oweTest b
    | _ => w
  match m.dest with
  | .slot a => w.releaseIn a m.number
  | .cradle _ _ => w.giveUpCradle m.number false
  | _ => w

/-- A parked move is removed from its crane's park stack; a crane that this leaves free is idle (R147). -/
def Work.unpark (w : Work) (n : Nat) : Work :=
  match (w.findMove n).bind (·.crane) with
  | some c => (w.modCrane c fun r => { r with park := r.park.filter (· != n) }).noteIdle c
  | none => w

/-- One move is cancelled by the steps of R147 for its state. -/
def Work.cancelCore (w : Work) (n : Nat) : Work :=
  match w.findMove n with
  | none => w
  | some m =>
    let w := match m.state with
      | .queued => w.leaveQueue n
      | .active => w.leaveActive n .abort
      | .parked => w.unpark n
      | _ => w
    (w.releaseAll m).endMove n .cancelled

/-- The unfinished moves whose waits-for list names a move, in ascending number. R51 gives no order in which several moves that wait for one
cancelled move are cancelled: the ascending order is the model's (DESIGN CHOICE, notes/assumptions/39.md). -/
def State.waiters (s : State) (n : Nat) : List Nat :=
  sortNums ((s.moves.table.vals.filter fun m => m.waits.contains n).map (·.number))

/-- The dig-outs made for a move that are still QUEUED (R147), ascending. They are judged by their present state: one that was assigned and is
QUEUED again counts (DEDUCED, notes/assumptions/55.md). -/
def State.queuedDigs (s : State) (n : Nat) : List Nat :=
  sortNums ((s.moves.table.vals.filter fun m => decide (m.digFor = some n) && decide (m.state = .queued)).map (·.number))

/-- A move is cancelled: the moves that wait for it first, each in the same way (R51), then the move itself, then its QUEUED dig-outs (R147).
The fuel bounds the depth of waiting moves. -/
def Work.cancelDown : Nat → Work → Nat → Work
  | 0, w, n => w.cancelCore n
  | k + 1, w, n =>
    let w := (w.waiters n).foldl (fun w d => cancelDown k w d) w
    (w.queuedDigs n).foldl (fun w d => cancelDown k w d) (w.cancelCore n)

/-- A move is cancelled with all that R51 and R147 cancel with it; at most 64 moves wait for one another. A move that waits for a dig-out of
the cancelled one is cancelled before the dig-out by every cancellation (R51, R173; DEDUCED for MOVE_CANCEL and FAULT_CLEAR,
notes/assumptions/14.md). -/
def Work.cancelMove (w : Work) (n : Nat) : Work := w.cancelDown 64 n

/-- The crane has an outstanding STOP that replaced a lowering of this move and that no status has named (R91, check 5 of R146);
`grip` asks for a LOWER_GRIP only (R169, R187). -/
def State.unanswered (s : State) (m : Move) (grip : Bool) : Bool :=
  match m.crane with
  | none => false
  | some c =>
    match (s.cranes.get c).order with
    | none => false
    | some o =>
      decide (o.kind = .stop) && !o.named &&
        (match o.replaced with
         | some r => decide (r.use = .phase m.number) && (decide (r.kind = .lowerGrip) || (!grip && decide (r.kind = .lowerSet)))
         | none => false)

end Sys2Proof.Machine
end

