-- ==== Sys2Proof/Machine/Weighing.lean ====
section
/-! DEFINITION. The Weighing Unit: conversion (R58 to R60), comparators (R61, R62), windows (R66), the end of a hook weighing with its
re-validation (R52 to R55, R70 to R72, R163, R164), bay scans and the ends of bay sessions (R63, R75, R78, R152, R166 to R170). -/

namespace Sys2Proof.Machine

/-! ### From counts to kilograms (R58 to R60) -/

/-- The load of one channel in grams (R58 (1), (2)). -/
def channelGrams (count zero : Int) (span : Nat) : Int := roundAway ((count - zero) * span) 65536

/-- A load in kilograms clamped to its range (R59 (2)). -/
def clampKg (k : Int) : Kg := max (-99999) (min k 199999)

/-- A converted sample: K, whether it was clamped, and whether a channel is at the positive or the negative limit (R59, R60). -/
structure Converted where
  k : Kg
  clamped : Bool
  positive : Bool
  negative : Bool
deriving DecidableEq, Repr

/-- A sample of channels (count, zero, span) converted (R58 to R60). -/
def convert (channels : List (Int × Int × Nat)) : Converted :=
  let k := roundAway ((channels.map fun x => channelGrams x.1 x.2.1 x.2.2).sum) 1000
  let positive := channels.any fun x => decide (x.1 = 8388607)
  { k := clampKg k
    clamped := decide (k ≠ clampKg k)
    positive := positive
    negative := !positive && channels.any fun x => decide (x.1 = -8388608) }

/-- The sample is SATURATED (R60). -/
def Converted.saturated (v : Converted) : Bool := v.positive || v.negative

/-- A crane sample, converted with the crane's entry (R56). -/
def craneConvert (e : CraneEntry) (st : Status) : Converted := convert [(st.c1, e.z1, e.s1), (st.c2, e.z2, e.s2)]

/-- The net hook load (R59 (3)). -/
def netLoad (e : CraneEntry) (v : Converted) : Kg := v.k - e.tare

/-- A bay sample, converted with the bay's entry (R57). -/
def bayConvert (e : BayEntry) (c1 c2 c3 c4 : Int) : Converted :=
  convert [(c1, e.z1, e.s1), (c2, e.z2, e.s2), (c3, e.z3, e.s3), (c4, e.z4, e.s4)]

/-! ### Windows (R66) -/

/-- A value added to the window, the oldest removed when it then holds more than `size` values. -/
def pushWindow (size : Nat) (win : List Kg) (v : Kg) : List Kg :=
  if size < (win ++ [v]).length then (win ++ [v]).drop 1 else win ++ [v]

/-- The largest value minus the smallest. -/
def spread : List Kg → Kg
  | [] => 0
  | v :: rest => rest.foldl max v - rest.foldl min v

/-- The window holds `size` values that lie within the stability band. -/
def windowStable (size band : Nat) (win : List Kg) : Bool := decide (win.length = size) && decide (spread win ≤ band)

/-- The result weight: the mean of the window rounded to the increment. -/
def windowResult (increment size : Nat) (win : List Kg) : Kg := increment * roundAway win.sum (size * increment)

/-! ### Re-validation (R52 to R55, R163, R164) -/

/-- The destination becomes unresolved AUTO (R54). -/
def Work.unresolve (w : Work) (n : Nat) : Work := w.modMove n fun m => { m with dest := .auto }

/-- A new slot is searched for a move whose destination has been given up; when there is none, 3-03 NO_SLOT is raised (R53 to R55). -/
def Work.reslot (w : Work) (c : CraneId) (n : Nat) (old : Option Dest) : Work :=
  match (w.unresolve n).resolveSlot c n old with
  | some w => w
  | none => (w.unresolve n).raise (.move n) 3 0

/-- The reservation of a TO_TRUCK move is moved to another cradle of its visit (R163 (2)). -/
def Work.moveCradle (w : Work) (b : BayId) (k k' n : Nat) : Work :=
  let i := w.entryOf b n
  let w := (w.setCradle b k .free).setCradle b k' (.reserved n)
  let w := w.modMove n fun m => { m with dest := .cradle b k' }
  match i with
  | some i => (w.modEntry b i fun e => { e with cradle := k' }).entryNotice b i .cradleChange
  | none => w

/-- The check of a cradle destination at a new measured weight (R163, R164). -/
def Work.recheckCradle (w : Work) (c : CraneId) (n : Nat) (b : BayId) (k : Nat) (coil : Coil) : Work :=
  match w.visitOf b with
  | none => w
  | some v =>
    match v.cradle k with
    | none => w
    | some x =>
      if x.fits coil && w.axlePasses v x coil then w
      else
        match w.chooseCradle v coil with
        | .chosen k' => w.moveCradle b k k' n
        | _ => (w.giveUpCradle n true).reslot c n (some (.cradle b k))

/-- The destination is checked again when a hook weighing ends (R52); `taken`: the result was written. -/
def Work.revalidate (w : Work) (c : CraneId) (n : Nat) (kind : ResultKind) (taken : Bool) : Work :=
  match w.findMove n with
  | none => w
  | some m =>
    match w.moveCoil m with
    | none => w
    | some k =>
      match m.dest with
      | .auto => w.reslot c n none
      | .slot a => if kind = .stable && !w.weightFits k.used a then (w.releaseIn a n).reslot c n (some m.dest) else w
      | .cradle b i => if kind = .stable && taken then w.recheckCradle c n b i k else w
      | .runway _ => w

/-! ### The end of a hook weighing (R70 to R72) -/

/-- Why the Coil Table does not take a crane result, if it does not (R21, R70). -/
def State.notWritten (s : State) (c : CraneId) (weight : Kg) : Option NotWritten :=
  if weight < s.layout.committed.tuning.emptyHook then some .belowEmpty
  else
    match s.craneEntry c with
    | some e => if (e.swl : Int) < weight then some .aboveSwl else none
    | none => none

/-- The deviation flag (R70 (1)). -/
def State.deviates (s : State) (coil : Coil) (weight : Kg) : Bool :=
  decide ((s.layout.committed.tuning.deviation * coil.declared : Int) < 100 * |weight - coil.declared|)

/-- A move that is still ACTIVE leaves WEIGH for CLAIM_DEST (R102). -/
def Work.leaveWeigh (w : Work) (c : CraneId) (n : Nat) : Work :=
  match w.findMove n with
  | some m => if m.state = .active then w.enterPhase c n .claimDest else w
  | none => w

/-- A hook session ends with a result kind and, when STABLE, a weight (R70 to R72). -/
def Work.endHook (w : Work) (c : CraneId) (kind : ResultKind) (weight : Option Kg) : Work :=
  let n? := (w.weighing.cranes.get c).session.bind (·.move)
  let w := w.discardHook c
  match n? with
  | none => w
  | some n =>
    match (w.findMove n).bind w.moveCoil with
    | none => w
    | some k =>
      let why := weight.bind fun x => w.notWritten c x
      let taken := weight.isSome && why.isNone
      let w := match weight with
        | some x =>
          if taken then w.modCoil k.id fun k => { k with measured := some ⟨x, .crane c, w.clock⟩ } else w
        | none => w
      let dev := match weight with | some x => taken && w.deviates k x | none => false
      let w := w.notice (.coilWeighed n k.id c kind weight taken why dev)
      let w := w.modMove n fun m => { m with weigh := some ⟨kind, weight⟩ }
      let w := w.revalidate c n kind taken
      match why, weight with
      | some .belowEmpty, some x => w.raise (.move n) 1 (max 0 x).toNat
      | some .aboveSwl, _ => w.raise (.crane c) 2 3
      | _, _ => w.leaveWeigh c n

/-! ### Crane samples (R61, R62, R65 to R68) -/

/-- The overload comparator trips, with the detail of the fault (R61 (1)). -/
def overloadTrip (e : CraneEntry) (v : Converted) : Option Nat :=
  if v.positive then some 1 else if !v.saturated && decide ((e.swl : Int) < netLoad e v) then some 2 else none

/-- The overload and signal comparators (R61). -/
def Work.limitComparators (w : Work) (c : CraneId) (e : CraneEntry) (v : Converted) : Work :=
  let w := match overloadTrip e v with
    | some d =>
      if (w.weighing.cranes.get c).overload then w
      else (w.modHook c fun h => { h with overload := true }).raise (.crane c) 2 d
    | none => if v.saturated then w else w.modHook c fun h => { h with overload := false }
  if v.negative then
    if (w.weighing.cranes.get c).signal then w
    else (w.modHook c fun h => { h with signal := true }).raise (.crane c) 5 1
  else if v.saturated then w
  else w.modHook c fun h => { h with signal := false }

/-- The empty-hook comparator (R62). A sample above E_h that trips the overload comparator too raises no 3-02, and the unexpected-load latch
stands as it was (DEDUCED, notes/assumptions/51.md). -/
def Work.emptyHookComparator (w : Work) (c : CraneId) (e : CraneEntry) (v : Converted) : Work :=
  if v.saturated then w
  else
    let n := netLoad e v
    if n ≤ w.layout.committed.tuning.emptyHook then w.modHook c fun h => { h with unexpected := false }
    else
      match w.currentMove c with
      | none => w
      | some m =>
        if m.state = .active && (decide (m.phase = some .claimSrc) || decide (m.phase = some .travelSrc))
            && (overloadTrip e v).isNone && !(w.weighing.cranes.get c).unexpected then
          (w.modHook c fun h => { h with unexpected := true }).raise (.move m.number) 2 n.toNat
        else w

/-- The value of a sample enters the window of a session in stage WINDOW, which may end STABLE (R65, R66). -/
def Work.hookValue (w : Work) (c : CraneId) (n : Kg) : Work :=
  match (w.weighing.cranes.get c).session with
  | none => w
  | some x =>
    if x.stage = .window then
      let t := w.layout.committed.tuning
      let win := pushWindow t.window x.window n
      let w := w.modHook c fun h => { h with session := some { x with window := win } }
      if windowStable t.window t.band win then w.endHook c .stable (some (windowResult 10 t.window win)) else w
    else w

/-- A crane sample: a failing sample ends the session first and then meets the comparators; any other meets the comparators first
(R61, R68). -/
def Work.craneSample (w : Work) (c : CraneId) (st : Status) : Work :=
  match w.craneEntry c with
  | none => w
  | some e =>
    let v := craneConvert e st
    let w := w.modHook c fun h => { h with last := some ⟨netLoad e v, v.saturated, v.clamped⟩ }
    if v.saturated || v.clamped || !st.still then
      let w := if (w.weighing.cranes.get c).session.isSome then w.endHook c .failed none else w
      (w.limitComparators c e v).emptyHookComparator c e v
    else ((w.limitComparators c e v).emptyHookComparator c e v).hookValue c (netLoad e v)

/-! ### Results of bay sessions -/

/-- G, E and T of a visit at a gross load (R168). -/
def State.compareGross (s : State) (v : Visit) (g : Kg) : Verification :=
  let loaded := v.cradles.filterMap fun k => match k.state with | .loaded id _ => (s.findCoil id).map (·.used) | _ => none
  let e := (match v.tare with | some t => t.1 | none => 0) + loaded.sum
  ⟨g, e, max 40 (e / 200)⟩

/-- The comparison passes (R168, R170). -/
def Verification.passes (x : Verification) : Bool := decide (|x.g - x.e| ≤ x.t)

/-- The moves of a visit that still wait to load: TO_TRUCK moves whose entry is PLANNED or MOVING, ascending (R169, R173). -/
def State.pendingLoads (s : State) (b : BayId) : List Nat :=
  match s.visitOf b with
  | none => []
  | some v => sortNums ((v.plan.filter fun e => e.state.pending).map (·.move))

/-- A move diverted to the yard at a recheck failure takes up its new destination (R169 (2)). -/
def Work.divertPhase (w : Work) (c : CraneId) (n : Nat) (m : Move) : Work :=
  if m.afterAbort.isSome then w.modMove n fun m => { m with afterAbort := some .claimDest }
  else if m.phase = some .claimDest || m.phase = some .travelDest || m.phase = some .bayWait || m.phase = some .lowerSet then
    if m.state = .active then
      let w := if m.phase = some .travelDest then w.sendStop c else w
      (w.withdraw c n).modMove n fun m => { m with phase := some .claimDest }
    else w.modMove n fun m => { m with phase := some .claimDest }
  else w

/-- The crane from whose position a diverted move looks for its slot: its own, or, for a move given back to the queue whose grip was reported
afterwards (R187, R91), the one that holds its coil (DEDUCED, notes/assumptions/49.md). -/
def State.carrier (s : State) (m : Move) : Option CraneId :=
  m.crane.orElse fun _ => (s.moveCoil m).bind fun k => match k.loc with | .hook c => some c | _ => none

/-- A TO_TRUCK move is diverted to the yard at a recheck failure (R169 (2)). -/
def Work.divertLoad (w : Work) (n : Nat) (m : Move) : Work :=
  match w.carrier m with
  | none => (w.giveUpCradle n false).unresolve n
  | some c =>
    let w := ((w.giveUpCradle n false).unresolve n).divertPhase c n m
    match w.resolveSlot c n (some m.dest) with
    | none => w.raise (.move n) 3 0
    | some w =>
      match w.findMove n with
      | some m =>
        if m.state = .active && decide (m.phase = some .claimDest) && m.afterAbort.isNone then w.enterPhase c n .claimDest else w
      | none => w

/-- One TO_TRUCK move at a recheck failure (R169). -/
def Work.recheckOne (w : Work) (n : Nat) : Work :=
  match w.findMove n with
  | none => w
  | some m => if w.coilOnHook m || w.unanswered m true then w.divertLoad n m else w.cancelMove n

/-- A TARE ends STABLE (R152). -/
def Work.tareResult (w : Work) (b : BayId) (g : Kg) : Work :=
  let w := w.modVisit b fun v => { v with tare := some (g, w.clock), lastGross := some g }
  match w.visitOf b with
  | none => w
  | some v => if (v.gMax : Int) < g then w.setVisitState b .discrepancy .tareOver else w.setVisitState b .ready .tared

/-- A SETDOWN ends STABLE (R166). -/
def Work.setdownResult (w : Work) (b : BayId) (entry : Option Nat) (g : Kg) : Work :=
  let last := (w.visitOf b).bind (·.lastGross)
  let w := w.modVisit b fun v => { v with lastGross := some g }
  let w := match entry with
    | some i => (w.modEntry b i fun e => { e with delta := last.map fun l => g - l }).entryNotice b i .setdown
    | none => w
  (w.oweGrant b).oweTest b

/-- A RECHECK ends STABLE (R168, R169); the last gross is kept at each result (R148; DEDUCED for a failed recheck, log 30). -/
def Work.recheckResult (w : Work) (b : BayId) (g : Kg) : Work :=
  match w.visitOf b with
  | none => w
  | some v =>
    let x := w.compareGross v g
    let w := w.modVisit b fun v => { v with verification := some x, lastGross := some g }
    if x.passes then ((w.setVisitState b .loading .recheckPass (some x)).oweGrant b).oweTest b
    else
      let w := w.setVisitState b .discrepancy .recheckFail (some x)
      (w.pendingLoads b).foldl (fun w n => w.recheckOne n) w

/-- A GROSS ends STABLE (R170). -/
def Work.grossResult (w : Work) (b : BayId) (g : Kg) : Work :=
  match w.visitOf b with
  | none => w
  | some v =>
    let x := w.compareGross v g
    (w.modVisit b fun v => { v with verification := some x, lastGross := some g }).setVisitState b
      (if x.passes then .verified else .discrepancy) .gross (some x)

/-- A ZERO ends STABLE (R78). The notices name the session that has just ended, kind ZERO, and a zero out of range carries refusal reason 30
by its cause ZERO_RANGE, since R208 gives the notice no field for it (DEDUCED, notes/assumptions/37.md). -/
def Work.zeroResult (w : Work) (b : BayId) (capacity : Nat) (k : Kg) : Work :=
  if |k| ≤ ((capacity / 50 : Nat) : Int) then (w.modScale b fun x => { x with trim := k }).scaleNotice b (some .zero) .zeroed (some k)
  else w.scaleNotice b (some .zero) .zeroRange (some k)

/-- A bay session ends STABLE and its result is handed to the block that waits for it (R74, R78). -/
def Work.endBay (w : Work) (b : BayId) (e : BayEntry) (x : Session) (g : Kg) : Work :=
  let w := w.discardBay b
  match x.kind with
  | .tare => w.tareResult b g
  | .setdown => w.setdownResult b x.entry g
  | .recheck => w.recheckResult b g
  | .gross => w.grossResult b g
  | .zero => w.zeroResult b e.capacity g
  | .hook => w

/-! ### Bay scans (R57, R63, R65, R66, R75) -/

/-- The scale state that a scan taken after warm-up sets (R63). -/
def scanState (e : BayEntry) (v : Converted) (gross : Kg) : ScaleState :=
  if v.saturated then .saturated else if v.clamped || decide ((e.capacity : Int) < gross) then .over else .ready

/-- The session of a bay meets a scan that fails it: it waits for READY, with one notice (R63, R68, R75 (2)). -/
def Work.scanFails (w : Work) (b : BayId) (changed : Bool) : Work :=
  match (w.weighing.bays.get b).session with
  | none => if changed then w.scaleNotice b none .state none else w
  | some x =>
    if x.stage = .waitReady then (if changed then w.scaleNotice b (some x.kind) .state none else w)
    else
      (w.modScale b fun y => { y with session := some { x with stage := .waitReady, window := [] } }).scaleNotice b (some x.kind)
        .failed none

/-- The session of a bay meets a scan with the scale READY: it starts again from WAIT_READY, ignores the scan in SETTLE, or takes its
value in WINDOW (R65, R66, R75 (2)). -/
def Work.scanPasses (w : Work) (b : BayId) (e : BayEntry) (v : Converted) (gross : Kg) : Work :=
  match (w.weighing.bays.get b).session with
  | none => w
  | some x =>
    match x.stage with
    | .waitReady => w.modScale b fun y => { y with session := some { x with stage := .settle, window := [], started := w.clock } }
    | .settle => w
    | .window =>
      let t := w.layout.committed.tuning
      let win := pushWindow t.window x.window (if x.kind = .zero then v.k else gross)
      let w := w.modScale b fun y => { y with session := some { x with window := win } }
      if windowStable t.window t.band win then w.endBay b e x (windowResult 20 t.window win) else w

/-- A completed scan of a bay with an entry (R57, R63). -/
def Work.takeScan (w : Work) (b : BayId) (e : BayEntry) (v : Converted) : Work :=
  let sc := w.weighing.bays.get b
  if sc.warm < 5 then w.modScale b fun x => { x with warm := x.warm + 1 }
  else
    let gross := v.k - sc.trim
    let st := scanState e v gross
    let changed := decide (st ≠ sc.state)
    let w := w.modScale b fun x => { x with state := st, last := some ⟨gross, v.saturated, v.clamped⟩ }
    if st = .ready then
      let w := if changed then w.scaleNotice b (sc.session.map (·.kind)) .state none else w
      w.scanPasses b e v gross
    else w.scanFails b changed

end Sys2Proof.Machine
end

