-- ==== Sys2Proof/Machine/Status.lean ====
section
/-! DEFINITION. What each crane status does (R86 to R92) and the completions of phases (R100 to R103, R105). -/

namespace Sys2Proof.Machine

/-! ### Completions of phases -/

/-- The effects of a grip: the coil on the hook, the source no longer naming it, the set-down lock of a cradle source released
(R31, R101). -/
def Work.gripDone (w : Work) (c : CraneId) (m : Move) : Work :=
  match m.coil with
  | none => w
  | some id =>
    let w := w.modCoil id fun k => { k with loc := .hook c }
    match m.source with
    | some (.slot a) => w.pickComplete a m.number
    | some (.saddle x) => if w.yard.onSaddle x = some id then w.setSaddle x none else w
    | some (.cradle b k) => (w.setCradle b k .free).releaseLock m.number
    | _ => w

/-- The effects of a set at a slot (R31, R103, R174). -/
def Work.setAtSlot (w : Work) (n : Nat) (m : Move) (id : MillId) (a : SlotAddr) : Work :=
  let w := (w.setComplete a n id).modCoil id fun k => { k with loc := .slot a, visit := none }
  match m.kind, m.source with
  | .unload, some (.cradle b _) =>
    match (w.visitOf b).bind fun v => v.entryWhere fun e => decide (e.coil = id) && decide (e.state = .onTruck) with
    | some i => (w.modEntry b i fun e => { e with state := .withdrawn }).entryNotice b i .unloaded
    | none => w
  | _, _ => w

/-- The effects of a set at a cradle, with the entry whose coil was set (R31, R103, R160). -/
def Work.setAtCradle (w : Work) (n : Nat) (id : MillId) (b : BayId) (k : Nat) : Work × Option Nat :=
  let w := (w.setCradle b k (.loaded id none)).modCoil id fun x => { x with loc := .cradle b k }
  match w.entryOf b n with
  | some i => ((w.modEntry b i fun e => { e with state := .onTruck }).entryNotice b i .loaded, some i)
  | none => (w, none)

/-- The put-down-first field is cleared when it names the coil (R95 (3), R103). -/
def Work.clearPutDown (w : Work) (c : CraneId) (id : MillId) : Work :=
  w.modCrane c fun r => { r with putDownFirst := if r.putDownFirst = some id then none else r.putDownFirst }

/-- The LOWER_SET completion: the coil at its destination, the move DONE, and at a cradle the lock released and a SETDOWN started
(R103, R166). A late set of a move whose destination a recheck divert has left unresolved has no place to be recorded at: the move ends DONE
and the coil record stays on the hook (the model's choice, notes/assumptions/36.md). A late set of a move that has been given another slot since, by a
redirect or a divert, is recorded at that slot (DEDUCED, notes/assumptions/33.md). -/
def Work.setDone (w : Work) (c : CraneId) (n : Nat) (m : Move) : Work :=
  match m.coil with
  | none => w.endMove n .done
  | some id =>
    match m.dest with
    | .cradle b k =>
      let x := w.setAtCradle n id b k
      let w := (((x.1.clearPutDown c id).endMove n .done).releaseLock n).leaveBayOrders n
      ((if (w.visitOf b).isSome then w.startBay b .setdown x.2 else w).oweTest b).oweGrant b
    | .slot a =>
      let w := ((w.setAtSlot n m id a).clearPutDown c id).endMove n .done
      match m.kind, m.source with
      | .unload, some (.cradle b _) => w.oweTest b
      | _, _ => w
    | _ => w.endMove n .done

/-- The phase that follows a TRAVEL, `none` for the end of a SHIFT (R97, R100). -/
def afterTravel (m : Move) : Option Phase → Option Phase
  | some .travelSrc => match m.source with | some (.cradle _ _) => some .bayWait | _ => some .lowerGrip
  | some .travelDest =>
    match m.dest with
    | .cradle _ _ => some .bayWait
    | .runway _ => none
    | _ => some .lowerSet
  | ph => ph

/-- An UNLOAD move at its cradle is granted the lock at once, without a BAY_WAIT, when it may be and nothing waits (R165 (2)). -/
def State.grantAtOnce (s : State) (m : Move) : Option BayId :=
  match m.kind, m.source, m.phase with
  | .unload, some (.cradle b _), some .travelSrc => if (s.bays.get b).waiting.isEmpty && s.grantable b m then some b else none
  | _, _, _ => none

/-- A phase that a move which is not ACTIVE keeps. On the crane's current move, a kept phase other than CLAIM_SRC and TRAVEL_SRC clears the
crane's unexpected-load latch as an entered one does (R62 (2)). -/
def Work.keepPhase (w : Work) (c : CraneId) (n : Nat) (ph : Phase) : Work :=
  let w := w.modMove n fun m => { m with phase := some ph }
  if (w.cranes.get c).current = some n then w.leaveSource c ph else w

/-- The next phase after a completion: entered when the move is ACTIVE and the mode is not STOPPED, otherwise only kept (R91, R99). -/
def Work.advance (w : Work) (c : CraneId) (n : Nat) (live : Bool) (ph : Phase) : Work :=
  if live then w.enterPhase c n ph else w.keepPhase c n ph

/-- A TRAVEL completion of a move (R100). A kept phase that has become CLAIM_SRC or CLAIM_DEST since the TRAVEL was sent (R95 (2), R145) is no longer
a TRAVEL phase and is kept as it stands (DEDUCED, notes/assumptions/25.md). An UNLOAD move that is not ACTIVE is granted no lock and keeps BAY_WAIT
(DEDUCED, notes/assumptions/48.md). -/
def Work.travelDone (w : Work) (c : CraneId) (n : Nat) (m : Move) (live : Bool) : Work :=
  if m.phase = some .travelSrc || m.phase = some .travelDest then
    match afterTravel m m.phase with
    | none => w.endMove n .done
    | some ph =>
      match if live then w.grantAtOnce m else none with
      | some b => (w.modBay b fun x => { x with lock := some n }).enterPhase c n .lowerGrip
      | none => w.advance c n live ph
  else w

/-- The move's crane carries the move out, or the move has been returned to the queue while its order was still under way (R91). -/
def Move.servedBy (m : Move) (c : CraneId) : Bool := decide (m.crane = some c) || decide (m.state = .queued)

/-- An order of a phase is finished with its end state: the completion of the phase, whatever the state of the move (R89 (3), R91,
R99 to R103). `own`: the order is that of the move's present phase. A former TRAVEL or HOIST completes no phase, since the order of the
present phase is due at this event (R99); a former lowering takes effect, since the coil has changed hands (R91; DEDUCED,
notes/assumptions/25.md). -/
def Work.phaseDone (w : Work) (c : CraneId) (n : Nat) (kind : OrderKind) (own : Bool) (st : Status) : Work :=
  let w := if kind = .travel then w.shrinkClaim c st.x else w
  match w.findMove n with
  | none => w
  | some m =>
    if m.servedBy c then
      let live := decide (m.state = .active) && decide (w.link.mode ≠ .stopped)
      match kind with
      | .travel => if own then w.travelDone c n m live else w
      | .lowerGrip =>
        let w := (w.gripDone c m).leaveBayOrders n
        if m.phase = some .lowerGrip || m.phase = some .bayWait then w.advance c n live .hoist else w
      | .hoist => if own && decide (m.phase = some .hoist) then w.advance c n live .weigh else w
      | .lowerSet => w.setDone c n m
      | .abortLower | .stop => w
    else w

/-- A STOP reported done shrinks the claim of a crane with no current move (R115 (2)). -/
def Work.stopDone (w : Work) (c : CraneId) (st : Status) : Work :=
  if (w.cranes.get c).current.isNone then w.shrinkClaim c st.x else w

/-- An ABORT_LOWER reported done: the move of a line drop goes on to the phase that awaits it (R105, R169). -/
def Work.abortDone (w : Work) (c : CraneId) : Work :=
  match w.currentMove c with
  | none => w
  | some m =>
    match m.afterAbort with
    | none => w
    | some ph =>
      let w := w.modMove m.number fun m => { m with afterAbort := none }
      w.advance c m.number (decide (m.state = .active) && decide (w.link.mode ≠ .stopped)) ph

/-- The completion of an order handed to its owner (R89 (3)). -/
def Work.orderDone (w : Work) (c : CraneId) (o : Order) (st : Status) : Work :=
  match o.use with
  | .phase n => w.phaseDone c n o.kind (!o.former) st
  | .yieldTravel => (w.shrinkClaim c st.x).endYield c
  | .halt => if o.kind = .abortLower then w.abortDone c else w.stopDone c st

/-! ### Reading the order state (R89 to R91) -/

/-- How a DONE status compares with the end state of an order. -/
inductive EndCheck
  | met
  /-- a HOIST that still swings -/
  | notYet
  /-- the end state disagrees, with the detail of 3-05 when a rule states one -/
  | disagrees (detail : Option Nat)
deriving DecidableEq, Repr

/-- The position lies within P of the target (R83). -/
def nearTarget (p x y : Cm) (st : Status) : Bool := decide (|(st.x : Int) - x| ≤ p) && decide (|(st.y : Int) - y| ≤ p)

/-- The expected end states of R83. -/
def endCheck (p : Cm) (o : Order) (st : Status) : EndCheck :=
  match o.kind with
  | .travel =>
    if st.hoist ≠ .up then .disagrees (some 2)
    else if !nearTarget p o.x o.y st then .disagrees (some 3)
    else if st.still then .met
    else .disagrees none
  | .lowerGrip => if st.hook = .gripped ∧ st.hoist = .down then .met else .disagrees (some 2)
  | .hoist => if st.hook = .gripped ∧ st.hoist = .up then (if st.still then .met else .notYet)
    else if st.still then .disagrees (some 2) else .notYet
  | .lowerSet => if st.hook = .opened ∧ st.hoist = .up then .met else .disagrees (some 2)
  | .abortLower => if (o.tongs = none ∨ o.tongs = some st.hook) ∧ st.hoist = .up then .met else .disagrees (some 2)
  | .stop => if st.still then .met else .disagrees none

/-- An order read as ended is no longer outstanding; when a STOP sent earlier in the same event has replaced it, the STOP keeps no
replaced order. -/
def Work.dropOrder (w : Work) (c : CraneId) (o : Order) : Work :=
  w.modCrane c fun r =>
    match r.order with
    | some x => if x.num = o.num then { r with order := none } else { r with order := some { x with replaced := none } }
    | none => r

/-- The outstanding order, when it is still this one, changed. -/
def Work.modOrder (w : Work) (c : CraneId) (num : Nat) (f : Order → Order) : Work :=
  w.modCrane c fun r => { r with order := r.order.map fun x => if x.num = num then f x else x }

/-- This order is still the outstanding one. -/
def State.stillOut (s : State) (c : CraneId) (o : Order) : Bool :=
  match (s.cranes.get c).order with | some x => decide (x.num = o.num) | none => false

/-- An order reported FAILED or with a disagreeing end state (R90). -/
def Work.orderFailed (w : Work) (c : CraneId) (o : Order) (detail : Option Nat) : Work :=
  match o.use with
  | .phase n =>
    if (w.cranes.get c).current = some n then
      w.raise (.move n) 5 (match detail with | some d => d | none => Config.openFaultDetail 90 w.eventNo) (some o.kind)
    else w
  | .yieldTravel => w.raise (.crane c) 6 2 (some o.kind)
  | .halt => w.raise (.crane c) 6 (if o.kind = .stop then 3 else 4) (some o.kind)

/-- The status names the order that was outstanding at its arrival (R89). -/
def Work.readNamed (w : Work) (c : CraneId) (o : Order) (st : Status) : Work :=
  let w := w.modOrder c o.num fun x => { x with named := true }
  match st.ostate with
  | .running => w.modOrder c o.num fun x => { x with running := true }
  | .idle => if w.stillOut c o then w.resend c else w
  | .failed => ((w.dropOrder c o).orderFailed c o (some 1)).sendDue c
  | .refused => ((w.dropOrder c o).raise (.crane c) 6 1 (some o.kind)).sendDue c
  | .done =>
    match endCheck w.tolerance o st with
    | .met => ((w.dropOrder c o).orderDone c o st).sendDue c
    | .notYet => w.modOrder c o.num fun x => { x with running := true }
    | .disagrees d => ((w.dropOrder c o).orderFailed c o d).sendDue c

/-- The status names the order that the outstanding STOP replaced: a late grip or set takes effect (R91 (1)). A lowering that an ABORT_LOWER
replaced has none (R91 (3), R105); the last sentence of R167, on a set completed before the abort reached the drive, is read as one whose
completion was reported before the abort was sent (DEDUCED, notes/assumptions/36.md). -/
def Work.readReplaced (w : Work) (c : CraneId) (o : Order) (st : Status) : Work :=
  match o.replaced with
  | none => w
  | some r =>
    if decide (o.kind = .stop) && decide (r.num = st.order) && !o.named && decide (st.ostate = .done)
        && (decide (r.kind = .lowerGrip) || decide (r.kind = .lowerSet)) then
      match r.use, endCheck w.tolerance { num := r.num, kind := r.kind, use := r.use } st with
      | .phase n, .met => (w.modOrder c o.num fun x => { x with replaced := none }).phaseDone c n r.kind true st
      | _, _ => w
    else w

/-- Step 5 of R86, with the order that was outstanding at the arrival. An order that a status does not name is sent again in every mode: R84
repeats it under its number, and R107, which sends no phase order in STOPPED, is read of new orders (DEDUCED, notes/assumptions/36.md). -/
def Work.readOrder (w : Work) (c : CraneId) (o0 : Option Order) (st : Status) : Work :=
  match o0 with
  | none => w
  | some o =>
    if st.order = o.num then w.readNamed c o st
    else
      let w := w.readReplaced c o st
      if w.stillOut c o then w.resend c else w

/-! ### The other steps of R86 -/

/-- Step 1: the last status, the report timer, seen since start (R86 (1), R93). -/
def Work.takeLast (w : Work) (c : CraneId) (st : Status) : Work :=
  w.modCrane c fun r => { r with last := some (st, w.clock), timer := true, fresh := true, late := false, seen := true }

/-- Step 2: the claim check (R87). -/
def Work.claimCheck (w : Work) (c : CraneId) (st : Status) : Work :=
  match w.runway.claims.get c with
  | none => w
  | some k =>
    if withinClaim st.x (w.halfWidth c) w.tolerance k then w.modCrane c fun r => { r with claimLatch := false }
    else if (w.cranes.get c).claimLatch then w
    else (w.modCrane c fun r => { r with claimLatch := true }).raise (.crane c) 4 st.x

/-- The cranes with an entry and a last status. -/
def State.reported (s : State) (c : CraneId) : Bool := (s.craneEntry c).isSome && (s.cranes.get c).last.isSome

/-- The neighbours of the separation check, each pair from west to east (R88). -/
def State.pairsOf (s : State) (c : CraneId) : List (CraneId × CraneId) :=
  let west := (allCranes.filter fun j => decide (craneNum j < craneNum c) && s.reported j).getLast?
  let east := (allCranes.filter fun j => decide (craneNum c < craneNum j) && s.reported j).head?
  (west.toList.map fun j => (j, c)) ++ (east.toList.map fun j => (c, j))

/-- The separation check of one pair (R88). -/
def Work.checkPair (w : Work) (p : CraneId × CraneId) : Work :=
  let gap := (w.craneX p.2 - w.halfWidth p.2) - (w.craneX p.1 + w.halfWidth p.1)
  if gap < w.layout.committed.sMin then
    if w.runway.sepLatches.contains p then w
    else
      Work.raise { w with runway := { w.runway with sepLatches := w.runway.sepLatches ++ [p] } } .runway 1 (craneNum p.1)
  else { w with runway := { w.runway with sepLatches := w.runway.sepLatches.filter (· != p) } }

/-- Step 3: the separation check, of the west pair and then of the east pair (R88). Both are checked as one step, the east pair too when the fault
of the west pair has stopped the coordinator (DEDUCED, notes/assumptions/52.md). -/
def Work.separationCheck (w : Work) (c : CraneId) : Work := (w.pairsOf c).foldl (fun w p => w.checkPair p) w

/-- Step 6: the drive fault code (R92). -/
def Work.driveCheck (w : Work) (c : CraneId) (st : Status) : Work :=
  let kept := (w.cranes.get c).drive
  let w := w.modCrane c fun r => { r with drive := st.drive }
  if st.drive ≠ 0 ∧ kept = 0 ∧ w.link.mode ≠ .stopped then w.raise (.crane c) 3 st.drive else w

/-- A step of R86 that is not made in STOPPED (R85), in the mode that the earlier steps have left. -/
def Work.unlessStopped (w : Work) (f : Work → Work) : Work := if w.link.mode = .stopped then w else f w

/-- A status taken (R86); in STOPPED without steps 2 to 4 (R85). A fault of one step takes its action at once, so a step that has stopped
the coordinator leaves out the steps after it that STOPPED does not make. -/
def Work.takeStatus (w : Work) (c : CraneId) (st : Status) : Work :=
  let o0 := (w.cranes.get c).order
  let w := w.takeLast c st
  let w := w.unlessStopped fun w => w.claimCheck c st
  let w := w.unlessStopped fun w => w.separationCheck c
  let w := w.unlessStopped fun w => w.craneSample c st
  (w.readOrder c o0 st).driveCheck c st

end Sys2Proof.Machine
end

