-- ==== Sys2Proof/Machine/Dispatcher.lean ====
section
/-! DEFINITION. The Dispatcher: corridors (R133), eligible cranes (R132, R134), runs (R135, R136), preemption (R137), the divert of a mutual
wait at its timeout (R114, R120), and everything an event owes at its end. -/

namespace Sys2Proof.Machine

/-! ### Corridors (R133) -/

/-- The neighbour to the west, when it has an entry in the committed image. -/
def State.westNeighbour (s : State) (c : CraneId) : Option CraneId := (westOf c).filter fun j => (s.craneEntry j).isSome

/-- The neighbour to the east, when it has an entry in the committed image. -/
def State.eastNeighbour (s : State) (c : CraneId) : Option CraneId := (eastOf c).filter fun j => (s.craneEntry j).isSome

/-- The east end of what a crane holds: the hi of its claim, else the end of its body; `none` when it has no last status either. -/
def State.eastEnd (s : State) (j : CraneId) : Option Cm :=
  match s.runway.claims.get j with
  | some k => some k.hi
  | none => if (s.cranes.get j).last.isSome then some (s.craneX j + s.halfWidth j) else none

/-- The west end of what a crane holds. -/
def State.westEnd (s : State) (j : CraneId) : Option Cm :=
  match s.runway.claims.get j with
  | some k => some k.lo
  | none => if (s.cranes.get j).last.isSome then some (s.craneX j - s.halfWidth j) else none

/-- The west bound of the corridor (R133). -/
def State.westBound (s : State) (c : CraneId) : Cm :=
  match s.westNeighbour c with
  | none => 0
  | some j =>
    if s.isFree j then
      ((s.westNeighbour j).bind s.eastEnd).getD 0 + 2 * s.halfWidth j + 2 * s.margin
    else (s.eastEnd j).getD (match s.runway.claims.get c with | some k => k.lo | none => 0)

/-- The east bound of the corridor (R133). -/
def State.eastBound (s : State) (c : CraneId) : Cm :=
  match s.eastNeighbour c with
  | none => s.runwayLength
  | some j =>
    if s.isFree j then
      ((s.eastNeighbour j).bind s.westEnd).getD s.runwayLength - 2 * s.halfWidth j - 2 * s.margin
    else (s.westEnd j).getD (match s.runway.claims.get c with | some k => k.hi | none => s.runwayLength)

/-- The span lies strictly inside the corridor of the crane; an end where the crane has no neighbour may be reached (R134). -/
def State.insideCorridor (s : State) (c : CraneId) (sp : Span) : Bool :=
  (decide (s.westBound c < sp.1) || ((s.westNeighbour c).isNone && decide (s.westBound c ≤ sp.1)))
    && (decide (sp.2 < s.eastBound c) || ((s.eastNeighbour c).isNone && decide (sp.2 ≤ s.eastBound c)))

/-! ### Eligible cranes (R132, R134) -/

/-- A dispatchable move (R131). -/
def Move.dispatchable (m : Move) : Bool := decide (m.state = .queued) && m.waits.isEmpty && decide (m.dest ≠ .auto)

/-- Restrictions (a) to (d) of R132. -/
def State.mayTake (s : State) (c : CraneId) (m : Move) : Bool :=
  (match s.hookCoil c with
   | some k => decide (m.kind = .putDown) && decide (m.coil = some k.id)
   | none => decide (m.kind ≠ .putDown))
    && (decide (m.kind ≠ .shift) || decide (m.named = some c))
    && (match m.mark with | some (j, _) => decide (j ≠ c) | none => true)

/-- The runway positions at which a move needs a stationary claim, the one its distance is reckoned from first (R134). -/
def State.stations (s : State) (m : Move) : List Cm :=
  let dest := (s.destPos none m.dest).map (·.1)
  match m.kind with
  | .putDown | .shift => dest.toList
  | .store | .relocate | .toTruck | .unload => ((m.source.bind s.placePos).map (·.1)).toList ++ dest.toList

/-- The crane would be eligible for the move if it were free (R134). -/
def State.suits (s : State) (c : CraneId) (m : Move) : Bool :=
  s.mayTake c m && !(s.stations m).isEmpty && (s.stations m).all fun x => s.insideCorridor c (s.stationary c x)

/-- The distance rule of R134: the crane nearest to the first station of the move; at equal distance the earlier one stays. -/
def State.nearestCrane (s : State) (m : Move) (l : List CraneId) : Option CraneId :=
  let x := ((s.stations m).head?).getD 0
  (l.foldl (fun (b : Option (Nat × CraneId)) c =>
    let d := (s.craneX c - x).natAbs
    match b with
    | some y => if d < y.1 then some (d, c) else some y
    | none => some (d, c)) none).map (·.2)

/-- The free crane chosen for a move (R134). -/
def State.chooseCrane (s : State) (m : Move) : Option CraneId :=
  s.nearestCrane m (allCranes.filter fun c => s.isFree c && s.suits c m)

/-- Conditions (1) to (4) of R137. -/
def State.mayPreempt (s : State) (c : CraneId) (m : Move) : Bool :=
  (match s.currentMove c with
   | some k =>
     decide (k.state = .active) && (decide (k.phase = some .claimSrc) || decide (k.phase = some .travelSrc))
       && decide (k.priority < m.priority)
   | none => false)
    && decide ((s.cranes.get c).park.length < 2) && s.suits c m

/-- The crane preempted for a move (R137). -/
def State.choosePreempted (s : State) (m : Move) : Option CraneId :=
  s.nearestCrane m (allCranes.filter fun c => s.mayPreempt c m)

/-! ### Assignment and preemption -/

/-- The plan entry of a move assigned for the first time becomes MOVING (R160). -/
def Work.entryAssigned (w : Work) (n : Nat) (m : Move) : Work :=
  match m.dest with
  | .cradle b _ =>
    match (w.visitOf b).bind fun v => v.entryWhere fun e => decide (e.move = n) && decide (e.state = .planned) with
    | some i => (w.modEntry b i fun e => { e with state := .moving }).entryNotice b i .assigned
    | none => w
  | _ => w

/-- A move is assigned to a crane (R136). -/
def Work.assign (w : Work) (c : CraneId) (n : Nat) (m : Move) : Work :=
  let w := ((w.leaveQueue n).setCurrent c (some n)).modMove n fun m =>
    { m with state := .active, crane := some c, phase := some (firstPhase m.kind) }
  ((w.moveNotice n).entryAssigned n m).enterPhase c n (firstPhase m.kind)

/-- The crane's current move is preempted and parked (R137 (a), (b)). -/
def Work.park (w : Work) (c : CraneId) : Work :=
  match (w.cranes.get c).current with
  | none => w
  | some k =>
    let w := ((w.leaveActive k .stop).modMove k fun m => { m with state := .parked }).modCrane c fun r =>
      { r with park := r.park ++ [k] }
    w.moveNotice k

/-- One move of the queue treated in a Dispatcher run (R136 (1) to (3)). -/
def Work.treat (w : Work) (n : Nat) : Work :=
  match w.findMove n with
  | none => w
  | some m =>
    if m.dispatchable then
      match w.chooseCrane m with
      | some c => (w.assign c n m).settleClaims settleFuel
      | none =>
        match w.choosePreempted m with
        | some c => ((w.park c).assign c n m).settleClaims settleFuel
        | none => w
    else w

/-- The Dispatcher run at the end of an event, if one is owed and the mode and the flag allow it (R135, R136). -/
def Work.runDispatcher (w : Work) : Work :=
  if w.dispatch && decide (w.link.mode = .run) && !w.runway.frozen then
    w.moves.queue.foldl (fun w n => w.treat n) { w with dispatch := false }
  else w

/-! ### The end of an event -/

/-- Everything an event owes at its end: the tests of R162 and R174, the grants of R165, the retries of R113 and the stack tops of R138,
and last the Dispatcher run of R135 (notes/assumptions/10.md). -/
def Work.settle (w : Work) : Work := (((w.bayTests).grants).settleClaims settleFuel).runDispatcher

/-- An event carried out on a state: its own effects, what it owes, its notices, orders and outputs. -/
def State.event (s : State) (f : Work → Work) : State := (f (Work.start s)).settle.finish

/-! ### The claim-wait timeout (R114, R120) -/

/-- The claim-wait timer of a crane's request is started afresh, its place in the order kept (R120): the model counts no milliseconds, so
the request stays as it is (notes/assumptions/3.md). -/
def Work.restartWaitTimer (w : Work) (c : CraneId) : Work :=
  match w.runway.waits.get c with
  | some x => w.setWait c (some x)
  | none => w

/-- 3-04 CLAIM_TIMEOUT on the move that waits for crane `c`'s claim (R114 (2)). -/
def Work.claimTimeout (w : Work) (c : CraneId) : Work :=
  match w.runway.waits.get c with
  | some x => w.raise (.move x.move) 4 x.blocker
  | none => w

/-- The move of crane `c` gives way in a mutual wait with two loaded cranes (R120). -/
def Work.divertMutual (w : Work) (c other : CraneId) : Work :=
  match w.runway.waits.get c with
  | none => w
  | some x =>
    match w.findMove x.move with
    | none => w
    | some m =>
      match w.moveCoil m with
      | none => w
      | some k =>
        match w.slotFrom c k { interval := some (w.westBound c, w.eastBound c) } with
        | none => (w.claimTimeout c).restartWaitTimer other
        | some a =>
          let w := match m.dest with
            | .slot b => w.releaseIn b m.number
            | _ => w.giveUpCradle m.number false
          match w.reallocate m k (some m.dest) a with
          | none => w
          | some w => ((w.withdraw c m.number).requestClaim c m.number).restartWaitTimer other

/-- The claim-wait timer of crane `c`'s request expires while it still waits (R114). -/
def Work.waitExpires (w : Work) (c : CraneId) : Work :=
  match w.mutualWith c with
  | some j =>
    if (w.hookCoil c).isSome && (w.hookCoil j).isSome then
      let loser := w.givesWay c j
      w.divertMutual loser (if loser = c then j else c)
    else w.claimTimeout c
  | none => w.claimTimeout c

end Sys2Proof.Machine
end

