-- ==== Sys2Proof/Machine/Clock.lean ====
section
/-! DEFINITION. The Yard Clock (R22), the cooling count (R23) and the table check (R33). -/

namespace Sys2Proof.Machine

/-- The seconds counter one second later (R22). -/
def nextSecond (t : Nat) : Nat := (t + 1) % 4294967296

/-! ### The cooling count (R23) -/

/-- A thermal state one minute later (R23). -/
def Thermal.minute : Thermal → Thermal
  | .hot r => if r ≤ 1 then .cold else .hot (r - 1)
  | .cold => .cold

/-- The coil becomes COLD at this tick. -/
def Coil.coolsNow (k : Coil) : Bool := k.isHot && decide (k.thermal.minute = .cold)

/-- Every HOT coil loses a minute, and the coils that become COLD have their notices in ascending order of table entry (R23). -/
def Work.cool (w : Work) : Work :=
  let cooled := w.coils.vals.filter Coil.coolsNow
  { w with
    coils := w.coils.mapVals fun k => { k with thermal := k.thermal.minute }
    out := w.out ++ cooled.map fun k => .coilCooled k.id k.loc }

/-! ### The table check (R33) -/

/-- The coil that a cradle of a bay's visit carries. -/
def State.loadedCoil (s : State) (b : BayId) (k : Nat) : Option MillId :=
  match (s.visitOf b).bind (·.cradle k) with
  | some x => match x.state with | .loaded id _ => some id | _ => none
  | none => none

/-- The coil that a slot names while it is OCCUPIED or RESERVED_OUT (R19). -/
def SlotState.names : SlotState → Option MillId
  | .occupied id => some id
  | .reservedOut _ id => some id
  | .reservedIn _ => none

/-- The place names the coil (R19); a hook names every coil whose location it is. -/
def State.placeNames (s : State) (id : MillId) : Place → Bool
  | .slot a => s.layout.committed.slotExists a && decide ((s.slot a).bind (·.names) = some id)
  | .saddle x => decide (s.yard.onSaddle x = some id)
  | .hook _ => true
  | .cradle b k => decide (s.loadedCoil b k = some id)

/-- Every place but a hook that names a coil, with the coil: slots, saddles, cradles. -/
def State.namings (s : State) : List (Place × MillId) :=
  (s.yard.slots.vals.filterMap fun e => e.state.names.map fun id => (Place.slot e.addr, id))
    ++ ([Saddle.ia, Saddle.ib].filterMap fun x => (s.yard.onSaddle x).map fun id => (Place.saddle x, id))
    ++ allBays.flatMap fun b => match s.visitOf b with
      | some v => (v.cradles.zipIdx 1).filterMap fun x =>
          match x.1.state with | .loaded id _ => some (Place.cradle b x.2, id) | _ => none
      | none => []

/-- The location of the coil of an ID is this place. -/
def State.liesAt (s : State) (id : MillId) (p : Place) : Bool :=
  match s.findCoil id with | some k => decide (k.loc = p) | none => false

/-- Two coils have one hook as their location (item 3). -/
def State.hookTwice (s : State) : Bool :=
  allCranes.any fun c => decide (1 < (s.coils.vals.filter fun k => k.loc == .hook c).length)

/-- The active move of a coil is an unfinished move that names the coil (item 4). -/
def State.activeAgrees (s : State) (k : Coil) : Bool :=
  match k.active with
  | none => true
  | some n => match s.findMove n with | some m => decide (m.coil = some k.id) | none => false

/-- The coil of an unfinished move has it as its active move (item 5). -/
def State.moveAgrees (s : State) (m : Move) : Bool :=
  match m.coil with
  | none => true
  | some id => match s.findCoil id with | some k => decide (k.active = some m.number) | none => false

/-- The coil of a move of this number is HOT. -/
def State.hotMove (s : State) (n : Nat) : Bool :=
  match (s.findMove n).bind s.moveCoil with | some k => k.isHot | none => false

/-- The coil lies in a top slot or on a cradle. -/
def Coil.needsCold (k : Coil) : Bool :=
  match k.loc with | .slot a => decide (a.tier = .top) | .cradle _ _ => true | _ => false

/-- A HOT coil where only a COLD one may be, or a top slot or cradle reserved for one (item 6). -/
def State.hotMisplaced (s : State) : Bool :=
  s.coils.vals.any (fun k => k.isHot && k.needsCold)
    || s.yard.slots.vals.any (fun e => decide (e.addr.tier = .top) &&
        (match e.state with | .reservedIn n => s.hotMove n | _ => false))
    || allBays.any fun b => match s.visitOf b with
      | some v => v.cradles.any fun k => match k.state with | .reserved n => s.hotMove n | _ => false
      | none => false

/-- A top slot that covers without its two supports OCCUPIED (item 7). -/
def State.topUnsupported (s : State) : Bool :=
  s.yard.slots.vals.any fun e => decide (e.addr.tier = .top) && s.covers e.addr && !s.supported e.addr

/-- The items of the table check in their order, each with whether it finds a disagreement (R33). -/
def State.checkItems (s : State) : List (Bool × Nat) :=
  [(s.coils.vals.any fun k => !s.placeNames k.id k.loc, 1),
    (s.namings.any fun x => !s.liesAt x.2 x.1, 2),
    (s.hookTwice, 3),
    (s.coils.vals.any fun k => !s.activeAgrees k, 4),
    (s.moves.table.vals.any fun m => !s.moveAgrees m, 5),
    (s.hotMisplaced, 6),
    (s.topUnsupported, 7)]

/-- The first item of the table check that finds a disagreement (R33). -/
def State.tableFault (s : State) : Option Nat := (s.checkItems.find? (·.1)).map (·.2)

/-- The table check raises 0-01 TABLE_CHECK at the first disagreement; it does not run in STOPPED (R33). -/
def Work.tableCheck (w : Work) : Work :=
  if w.link.mode = .stopped then w
  else
    match w.tableFault with
    | some item => w.raise .coordinator 1 item
    | none => w

/-! ### Seconds and minutes (R22) -/

/-- The second that passes next brings the counter to a whole multiple of 60 (R22). -/
def State.minuteNext (s : State) : Bool := decide (nextSecond s.clock % 60 = 0)

/-- A second passes: the counter counts, and where it reaches a whole multiple of 60 the minute tick is given at the same event, the cooling
count first and then the table check (R22, R23, R33). -/
def Work.second (w : Work) : Work :=
  let tick := w.minuteNext
  let w : Work := { w with clock := nextSecond w.clock }
  if tick then w.cool.tableCheck else w

/-- YARD_CLOCK_SECOND: one second passes; without supply the Yard Clock does not run (R22, R205). -/
def execYardClockSecond (s : State) : Host.Outcome State Fault Refusal :=
  .next (s.event fun w => if w.power = .off then w else w.second)

/-- MINUTE_TICK: the second passes at which the counter reaches a whole multiple of 60 and the tick is given; where the counter does not stand
right before such a multiple, the event cannot happen, and nothing does (R22, notes/assumptions/4.md). -/
def execMinuteTick (s : State) : Host.Outcome State Fault Refusal :=
  .next (s.event fun w => if w.power = .off || !w.minuteNext then w else w.second)

end Sys2Proof.Machine
end

