-- ==== Sys2Proof/Machine/Operands.lean ====
section
/-! DEFINITION. The operands of the request telegrams: the body layouts of R207 and the field checks of the owning rules (check 5 of
R192). A check that fails is given by the position of its field (notes/assumptions/6.md). -/

namespace Sys2Proof.Machine

/-- The position of the first field at fault, of checks in body order. -/
def firstBad (l : List (Bool × Nat)) : Option Nat := (l.find? fun x => !x.1).map (·.2)

/-- A value lies in a range, both ends included (0.5 (10)). -/
def inRange (lo hi v : Nat) : Bool := decide (lo ≤ v) && decide (v ≤ hi)

/-- A digit or a capital letter (R18). -/
def idChar (b : Byte) : Bool := inRange 0x30 0x39 b.toNat || inRange 0x41 0x5A b.toNat

/-- A character of a truck ID (R148). -/
def truckChar (b : Byte) : Bool := idChar b || decide (b = 0x2D#8) || decide (b = 0x20#8)

/-- The mill ID at a position. -/
def idAt (body : List Byte) (pos : Nat) : MillId := fieldBytes body pos 12

/-- A mill ID of the right characters (R18). -/
def idOk (id : MillId) : Bool := id.all idChar

/-- The tier of its byte (R207). -/
def tierOf : Nat → Option Tier
  | 0 => some .bottom
  | 1 => some .top
  | _ => none

/-- The SLOT at a position, when it is in range (R4). -/
def slotAt (body : List Byte) (pos : Nat) : Option SlotAddr :=
  match tierOf (u8At body (pos + 1)) with
  | some t =>
    if inRange 1 40 (u8At body pos) && inRange 1 12 (u8At body (pos + 2)) then some ⟨u8At body pos, t, u8At body (pos + 2)⟩ else none
  | none => none

/-- A priority byte: 0 to 7, or FFH for the default of 5 (R28, R139, R156). -/
def priorityAt (body : List Byte) (pos : Nat) : Option Nat :=
  let p := u8At body pos
  if p ≤ 7 then some p else if p = 255 then some 5 else none

/-- A destination of a request: a slot, AUTO with a row range, a runway x (R139). -/
inductive Target
  | slot (a : SlotAddr)
  | auto (range : Option (Nat × Nat))
  | runway (x : Nat)
deriving DecidableEq, Repr

/-- The PLACE at a position as a destination, when its form and values are in range (R42, R139 (3), (4), R207). -/
def targetAt (body : List Byte) (pos : Nat) : Option Target :=
  match u8At body pos with
  | 1 => (slotAt body (pos + 1)).map .slot
  | 5 => some (.runway (u16At body (pos + 2)))
  | 6 =>
    let r1 := u8At body (pos + 1)
    let r2 := u8At body (pos + 2)
    if r1 = 0 ∧ r2 = 0 then some (.auto none)
    else if inRange 1 40 r1 && inRange 1 40 r2 && decide (r1 ≤ r2) then some (.auto (some (r1, r2)))
    else none
  | _ => none

/-! ### Layout telegrams (R2 to R8) -/

/-- A field that selects its default when sent as 0 (R2). -/
def orDefault (v d : Nat) : Nat := if v = 0 then d else v

/-- In range, or 0 for the default (R2). -/
def zeroOr (lo hi v : Nat) : Bool := decide (v = 0) || inRange lo hi v

/-- LAYOUT_RUNWAY (R2). -/
def runwayBad (body : List Byte) : Option Nat :=
  firstBad [(inRange 2000 65000 (u16At body 1), 1), (inRange 500 4000 (u16At body 3), 3), (zeroOr 50 1000 (u16At body 5), 5),
    (zeroOr 10 200 (u16At body 7), 7), (zeroOr 50 500 (u16At body 9), 9)]

/-- The crane entry of a LAYOUT_CRANE SET (R3). -/
def craneEntryAt (body : List Byte) : CraneEntry :=
  { h := u16At body 3, swl := u16At body 5, tare := u16At body 7, z1 := s24At body 9, z2 := s24At body 12
    s1 := u32At body 15, s2 := u32At body 19 }

/-- LAYOUT_CRANE (R3). -/
def craneBad (body : List Byte) : Option Nat :=
  let e := craneEntryAt body
  firstBad ([(inRange 1 4 (u8At body 1), 1), (inRange 0 1 (u8At body 2), 2)] ++
    (if u8At body 2 = 0 then
      [(inRange 300 1500 e.h, 3), (inRange 10000 60000 e.swl, 5), (inRange 0 15000 e.tare, 7),
        (inRange 1 4000000 e.s1, 15), (inRange 1 4000000 e.s2, 19)]
    else []))

/-- The row entry of a LAYOUT_ROW SET (R4). -/
def rowEntryAt (body : List Byte) : RowEntry :=
  { x := u16At body 3, y0 := u16At body 5, pitch := u16At body 7, b := u8At body 9
    odMin := u16At body 10, odMax := u16At body 12, maxWidth := u16At body 14 }

/-- LAYOUT_ROW (R4). -/
def rowBad (body : List Byte) : Option Nat :=
  let e := rowEntryAt body
  firstBad ([(inRange 1 40 (u8At body 1), 1), (inRange 0 1 (u8At body 2), 2)] ++
    (if u8At body 2 = 0 then
      [(inRange 0 65000 e.x, 3), (inRange 0 4000 e.y0, 5), (inRange 150 400 e.pitch, 7), (inRange 2 12 e.b, 9),
        (inRange 800 2500 e.odMin && decide (e.odMin ≤ e.odMax), 10), (inRange 800 2500 e.odMax, 12),
        (inRange 600 2200 e.maxWidth, 14)]
    else []))

/-- LAYOUT_INTAKE (R6). -/
def intakeBad (body : List Byte) : Option Nat :=
  firstBad [(inRange 0 65000 (u16At body 1), 1), (inRange 0 4000 (u16At body 3), 3), (inRange 0 4000 (u16At body 5), 5)]

/-- The bay entry of a LAYOUT_BAY SET (R7). -/
def bayEntryAt (body : List Byte) : BayEntry :=
  { bx0 := u16At body 3, bx1 := u16At body 5, xk := u16At body 7, yt := u16At body 9, capacity := u32At body 11
    z1 := s24At body 15, z2 := s24At body 18, z3 := s24At body 21, z4 := s24At body 24
    s1 := u32At body 27, s2 := u32At body 31, s3 := u32At body 35, s4 := u32At body 39 }

/-- LAYOUT_BAY (R7). -/
def bayBad (body : List Byte) : Option Nat :=
  let e := bayEntryAt body
  firstBad ([(inRange 1 2 (u8At body 1), 1), (inRange 0 1 (u8At body 2), 2)] ++
    (if u8At body 2 = 0 then
      [(inRange 0 65000 e.bx0 && decide (e.bx0 < e.bx1), 3), (inRange 0 65000 e.bx1, 5),
        (inRange 0 65000 e.xk && decide (e.bx0 ≤ e.xk) && decide (e.xk + 1600 ≤ e.bx1), 7), (inRange 0 4000 e.yt, 9),
        (inRange 1000 80000 e.capacity, 11), (inRange 1 4000000 e.s1, 27), (inRange 1 4000000 e.s2, 31),
        (inRange 1 4000000 e.s3, 35), (inRange 1 4000000 e.s4, 39)]
    else []))

/-- A tuning field: 0 selects the default, any other value is brought into its range (R8). -/
def clampItem (lo hi d v : Nat) : Nat := if v = 0 then d else max lo (min v hi)

/-- A tuning field that was replaced by an end of its range (R8). -/
def clampedItem (lo hi v : Nat) : Bool := decide (v ≠ 0) && !inRange lo hi v

/-- The tuning items of a LAYOUT_TUNING (R8). -/
def tuningAt (body : List Byte) : Tuning :=
  { reportTimeout := clampItem 100 2000 500 (u16At body 1)
    settle := clampItem 200 3000 800 (u16At body 3)
    window := clampItem 4 16 8 (u8At body 5)
    band := clampItem 10 500 40 (u16At body 6)
    stability := clampItem 2 20 6 (u8At body 8)
    emptyHook := clampItem 200 2000 500 (u16At body 9)
    claimWait := clampItem 10 600 60 (u16At body 11)
    deviation := clampItem 1 20 5 (u8At body 13) }

/-- The clamped flag of a LAYOUT_TUNING (R8). -/
def tuningClamped (body : List Byte) : Bool :=
  clampedItem 100 2000 (u16At body 1) || clampedItem 200 3000 (u16At body 3) || clampedItem 4 16 (u8At body 5)
    || clampedItem 10 500 (u16At body 6) || clampedItem 2 20 (u8At body 8) || clampedItem 200 2000 (u16At body 9)
    || clampedItem 10 600 (u16At body 11) || clampedItem 1 20 (u8At body 13)

/-! ### Coils (R18, R26, R28) -/

/-- The thermal state of a coil entered with a cooling time (R23, R27). -/
def enteredThermal (cooling : Nat) : Thermal := if cooling = 0 then .cold else .hot cooling

/-- The checks of the fields that enter a coil (R18). -/
def coilChecks (body : List Byte) : List (Bool × Nat) :=
  [(idOk (idAt body 1), 1), (inRange 500 45000 (u16At body 13), 13), (inRange 800 2500 (u16At body 15), 15),
    (inRange 600 2200 (u16At body 17), 17), (inRange 0 4320 (u16At body 19), 19)]

/-- The coil of a body that enters one, at a place (R27, R29). -/
def newCoil (body : List Byte) (loc : Place) (active : Option Nat) : Coil :=
  { id := idAt body 1, loc := loc, declared := u16At body 13, measured := none, od := u16At body 15, width := u16At body 17
    thermal := enteredThermal (u16At body 19), active := active, visit := none }

/-- The saddle of its byte (R207). -/
def saddleOf : Nat → Option Saddle
  | 1 => some .ia
  | 2 => some .ib
  | _ => none

/-! ### Moves (R139) -/

/-- A MOVE_REQUEST (R139). -/
inductive MoveAsk
  | relocate (id : MillId) (t : Target) (priority : Nat)
  | putDown (id : MillId) (t : Target) (priority : Nat)
  | shift (c : CraneId) (x : Nat) (priority : Nat)
deriving DecidableEq, Repr

/-- The target of a RELOCATE or a PUT_DOWN (R139 (5)). -/
def Target.isYard : Target → Bool
  | .runway _ => false
  | _ => true

/-- A MOVE_REQUEST read, or the position of the first field at fault (R139). -/
def moveAskAt (length : Cm) (body : List Byte) : Except Nat MoveAsk :=
  let kind := u8At body 1
  if 2 < kind then .error 1
  else if kind = 2 then
    match craneOf (u8At body 14), targetAt body 15, priorityAt body 19 with
    | none, _, _ => .error 14
    | some c, some (.runway x), p =>
      if length < x then .error 15 else match p with | some p => .ok (.shift c x p) | none => .error 19
    | some _, _, _ => .error 15
  else if !idOk (idAt body 2) then .error 2
  else
    match targetAt body 15, priorityAt body 19 with
    | none, _ => .error 15
    | some t, p =>
      if !t.isYard then .error 15
      else
        match p with
        | none => .error 19
        | some p => .ok (if kind = 0 then .relocate (idAt body 2) t p else .putDown (idAt body 2) t p)

/-! ### Faults (R183) -/

/-- A FAULT_CLEAR that the table of R183 gives. -/
inductive ClearAsk
  | retry (n : Nat)
  | cancel (n : Nat)
  | crane (c : CraneId) (reassign : Bool)
  | runway
  | coordinator
deriving DecidableEq, Repr

/-- A FAULT_CLEAR read, or the position of the first field at fault (R183). -/
def clearAskAt (body : List Byte) : Except Nat ClearAsk :=
  let n := u16At body 2
  let a := u8At body 4
  match u8At body 1 with
  | 0 => if n = 0 then .error 2 else if a = 0 then .ok (.retry n) else if a = 1 then .ok (.cancel n) else .error 4
  | 1 =>
    match craneOf n with
    | none => .error 2
    | some c => if a = 2 then .ok (.crane c false) else if a = 3 then .ok (.crane c true) else .error 4
  | 2 => if n ≠ 0 then .error 2 else if a = 2 then .ok .runway else .error 4
  | 3 => if n ≠ 0 then .error 2 else if a = 2 then .ok .coordinator else .error 4
  | _ => .error 1

/-! ### Trucks (R150, R156) -/

/-- The cradles of a TRUCK_CHECKIN (R150). -/
def cradlesAt (body : List Byte) : List Cradle :=
  (List.range (u8At body 30)).map fun i =>
    { d := u16At body (31 + 6 * i), maxWeight := u16At body (33 + 6 * i), maxOd := u16At body (35 + 6 * i) }

/-- The checks of one cradle of a TRUCK_CHECKIN (R150 (3), (4)). -/
def cradleChecks (body : List Byte) (i : Nat) : List (Bool × Nat) :=
  let d := u16At body (31 + 6 * i)
  [(decide (d ≤ u16At body 18) && (decide (i = 0) || decide (u16At body (31 + 6 * (i - 1)) < d)), 31 + 6 * i),
    (inRange 500 45000 (u16At body (33 + 6 * i)), 33 + 6 * i), (inRange 800 2500 (u16At body (35 + 6 * i)), 35 + 6 * i)]

/-- TRUCK_CHECKIN (R150). -/
def checkinBad (body : List Byte) : Option Nat :=
  let tk := u16At body 20
  let ta := u16At body 22
  firstBad ([(inRange 1 2 (u8At body 1), 1), ((fieldBytes body 2 16).all truckChar, 2), (inRange 400 1600 (u16At body 18), 18),
      (inRange 0 20000 tk && decide (tk ≤ u16At body 24) && decide (tk + ta ≤ u16At body 28), 20),
      (inRange 0 20000 ta && decide (ta ≤ u16At body 26), 22), (inRange 1 40000 (u16At body 24), 24),
      (inRange 1 40000 (u16At body 26), 26), (inRange 1 60000 (u16At body 28), 28), (inRange 1 4 (u8At body 30), 30)]
    ++ (List.range (min 4 (u8At body 30))).flatMap (cradleChecks body))

/-- The visit that a TRUCK_CHECKIN creates (R150). -/
def visitAt (body : List Byte) : Visit :=
  { truck := fieldBytes body 2 16, l := u16At body 18, cradles := cradlesAt body, tk := u16At body 20, ta := u16At body 22
    kMax := u16At body 24, aMax := u16At body 26, gMax := u16At body 28 }

/-- The entries of a LOAD_PLAN: mill ID and cradle, 0 for AUTO (R156, R207). -/
def planAt (body : List Byte) : List (MillId × Nat) :=
  (List.range (u8At body 3)).map fun i => (idAt body (4 + 13 * i), u8At body (16 + 13 * i))

/-- An entry at fault: its characters, its cradle number, or its equal among the earlier entries (R156 (2) to (4)). -/
def entryBad (l : List (MillId × Nat)) (i : Nat) : Bool :=
  match l[i]? with
  | none => false
  | some e =>
    !idOk e.1 || decide (4 < e.2) || (l.take i).any fun f => decide (f.1 = e.1) || (decide (e.2 ≠ 0) && decide (f.2 = e.2))

/-- LOAD_PLAN: the detail of its BAD_FIELD refusal, the entry at fault or 0 (R156, R207). -/
def planBad (body : List Byte) : Option Nat :=
  if !inRange 1 2 (u8At body 1) || (priorityAt body 2).isNone || !inRange 1 4 (u8At body 3)
      || decide (u8At body 3 ≠ (body.length - 3) / 13) then some 0
  else ((List.range (u8At body 3)).find? (entryBad (planAt body))).map (· + 1)

/-- The body lengths that LOAD_PLAN allows (R207). -/
def planLength (n : Nat) : Bool := decide (n = 16) || decide (n = 29) || decide (n = 42) || decide (n = 55)

end Sys2Proof.Machine
end

