-- ==== Sys2Proof/Machine/Link.lean ====
section
/-! DEFINITION. The Link Controller: the order in which a request is checked (R192), refusals, replies (R191, R193), and the frames that are
no request (R190). -/

namespace Sys2Proof.Machine

/-- What a handler leaves: the event so far and the body of the reply. -/
abbrev Handled := Work × ReplyBody

/-- A refusal: nothing is changed (R192). -/
def Work.refuse (w : Work) (why : Reason) (detail : Nat) : Handled := (w, .refused why (BitVec.ofNat 8 detail))

/-- A refusal whose detail no rule states: a free value (notes/assumptions/5.md). -/
def Work.refuseOpen (w : Work) (why : Reason) (rule : Nat) : Handled := (w, .refused why (Config.openDetail rule w.eventNo))

/-- DONE with its results (R193 (1)). -/
def Work.done (w : Work) (r : Result) : Handled := (w, .done r)

/-- A field check: BAD_FIELD with the position at fault, or the handler (check 5 of R192). -/
def Work.fields (w : Work) (bad : Option Nat) (h : Work → Handled) : Handled :=
  match bad with
  | some p => w.refuse .badField p
  | none => h w

/-- The modes in which a telegram is taken (section 10.3), with the lengths it allows and whether it is taken while a store write runs. -/
structure Taken where
  code : Nat
  /-- the one length, or `none` for LOAD_PLAN -/
  length : Option Nat
  modes : List Mode
  whileBusy : Bool := false
deriving DecidableEq, Repr

/-- The body has an allowed length (R207). -/
def Taken.fits (t : Taken) (body : List Byte) : Bool :=
  match t.length with
  | some n => decide (body.length = n)
  | none => planLength body.length

/-- Every mode. -/
def everyMode : List Mode := [.setup, .run, .quiesced, .stopped]

/-- A store write runs (R13). -/
def State.busy (s : State) : Bool := s.layout.writing.isSome

/-- Checks 2 to 4 of R192, and then the checks and effects of the owning block. -/
def Work.checked (w : Work) (t : Taken) (body : List Byte) (h : Work → Handled) : Handled :=
  if !t.fits body then w.refuse .badLength (t.length.getD 0)
  else if w.busy && !t.whileBusy then w.refuse .busy 0
  else if !t.modes.contains w.link.mode then w.refuse .badMode 0
  else h w

/-- A reply is held behind the replies before it; its code is the request's plus 80H (R191). -/
def Work.reply (r : Handled) (code : Nat) (seq : Byte) : Work :=
  { r.1 with link := { r.1.link with replies := r.1.link.replies ++ [⟨BitVec.ofNat 8 (code + 128), seq, r.2⟩] } }

/-- The receiver returns to HUNT (R190). -/
def Work.hunt (w : Work) : Work := { w with link := { w.link with rx := .hunt } }

/-- A good frame completed: ignored before the end of the start-up check and without supply (R190), discarded unhandled while 4 replies
are held (R191), otherwise handled and answered. -/
def Work.takeFrame (w : Work) (code : Nat) (seq : Byte) (h : Work → Handled) : Work :=
  if w.power ≠ .on then w
  else if 4 ≤ w.link.replies.length then w.hunt
  else Work.reply (h w.hunt) code seq

/-- The whole event of a request telegram. -/
def State.request (s : State) (t : Taken) (seq : Byte) (body : List Byte) (h : Work → Handled) : State :=
  s.event fun w => w.takeFrame t.code seq fun w => w.checked t body h

/-! ### Frames that are no known request (R190 to R192) -/

/-- A good frame with an unknown code (check 1 of R192). -/
def execUnknownCodeRequest (code seq : Byte) (_body : List Byte) (s : State) : Host.Outcome State Fault Refusal :=
  .next (s.event fun w => w.takeFrame code.toNat seq fun w => w.refuse .unknownCode 0)

/-- A frame broken off is discarded (R190 (1)). -/
def execFrameBrokenOff (_got : List Byte) (s : State) : Host.Outcome State Fault Refusal := .next (s.event fun w => w.hunt)

/-- A frame with a bad CRC is discarded (R190 (2)). -/
def execFrameBadCrc (_got : List Byte) (s : State) : Host.Outcome State Fault Refusal := .next (s.event fun w => w.hunt)

/-- A frame with a length byte above 250 is discarded (R190). -/
def execFrameLengthOver (_length : Byte) (s : State) : Host.Outcome State Fault Refusal := .next (s.event fun w => w.hunt)

/-- A request completed while 4 replies are held is discarded unhandled (R191). -/
def execRequestDiscardedUnhandled (_code _seq : Byte) (_body : List Byte) (s : State) : Host.Outcome State Fault Refusal :=
  .next (s.event fun w => w.hunt)

/-- The reply being sent has left: it is held no longer (R191). -/
def execReplySent (s : State) : Host.Outcome State Fault Refusal :=
  .next (s.event fun w => { w with link := { w.link with replies := w.link.replies.drop 1 } })

end Sys2Proof.Machine
end

