-- ==== Sys2Proof/Machine/Creation.lean ====
section
/-! DEFINITION. The creation of moves: numbers and entries (R128, R129), dig-outs (R47 to R50) and the check of a destination (R41 to R44). -/

namespace Sys2Proof.Machine

/-! ### Numbers and entries -/

/-- The first of some candidates, one after another, that is not held (R129); at most 64 numbers are held, so 65 tries suffice. -/
def freshFrom (held : List Nat) : Nat → Nat → Nat
  | 0, n => n
  | k + 1, n => if held.contains n then freshFrom held k (nextCount 65535 n) else n

/-- The next `k` numbers, one after another (R129). -/
def freshNumbers (held : List Nat) : Nat → Nat → List Nat
  | 0, _ => []
  | k + 1, last =>
    let n := freshFrom held 65 (nextCount 65535 last)
    n :: freshNumbers (n :: held) k n

/-- The numbers that the next `k` moves will take (R129). -/
def State.nextNumbers (s : State) (k : Nat) : List Nat := freshNumbers (s.moves.table.vals.map (·.number)) k s.moves.last

/-- The Move Table has room for `k` more moves (R48 (1), R128). -/
def State.room (s : State) (k : Nat) : Bool := decide (s.moves.table.length + k ≤ 64)

/-- A move enters the Move Table QUEUED, in the lowest empty entry, and its coil names it (R24, R128, R130). -/
def Work.createMove (w : Work) (m : Move) : Work :=
  let w : Work := { w with moves := { w.moves with table := w.moves.table.put (w.moves.table.lowestFrom 0) m, last := m.number } }
  let w := match m.coil with
    | some id => w.modCoil id fun k => { k with active := some m.number }
    | none => w
  w.joinQueue m.number

/-- Several moves created in order. -/
def Work.createMoves (w : Work) (l : List Move) : Work := l.foldl (fun w m => w.createMove m) w

/-- The MOVE_STATE notices of several moves, in order. -/
def Work.moveNotices (w : Work) (l : List Nat) : Work := l.foldl (fun w n => w.moveNotice n) w

/-! ### Dig-outs (R47, R48) -/

/-- What a covering top slot asks of a request: nothing, a wait for a move, a dig-out of its coil, or a refusal (R47). -/
inductive Cover
  | nothing
  | wait (n : Nat)
  | dig (id : MillId)
  | blocked
deriving DecidableEq, Repr

/-- The treatment of a covering top slot (R47); `named` gives the move of a coil that another part of the same request names. -/
def State.cover (s : State) (named : MillId → Option Nat) (t : SlotAddr) : Cover :=
  match s.slot t with
  | none => .nothing
  | some (.occupied id) => match named id with | some n => .wait n | none => .dig id
  | some (.reservedOut n _) => .wait n
  | some (.reservedIn _) => .blocked

/-- The covering top slots of a place: those over a bottom slot. -/
def State.coversOf (s : State) : Place → List SlotAddr
  | .slot a => coveringSlots s.layout.committed a
  | _ => []

/-- The first covering top slot that is RESERVED_IN, by its position (R47). Where both are, the lower position is named, since R48 takes the
covering slots in that order (DEDUCED, notes/assumptions/50.md). -/
def State.blockedBy (s : State) (p : Place) : Option Nat :=
  ((s.coversOf p).find? fun t => s.cover (fun _ => none) t = .blocked).map (·.pos)

/-- A dig-out planned: its top slot, its coil. -/
abbrev Dig := SlotAddr × MillId

/-- The dig-outs that a coil's place needs, the lower position first (R47, R48 (2)). -/
def State.digsOf (s : State) (named : MillId → Option Nat) (p : Place) : List Dig :=
  (s.coversOf p).filterMap fun t => match s.cover named t with | .dig id => some (t, id) | _ => none

/-- The moves that a coil's place makes its move wait for besides its dig-outs (R47, R50). -/
def State.waitsOf (s : State) (named : MillId → Option Nat) (p : Place) : List Nat :=
  (s.coversOf p).filterMap fun t => match s.cover named t with | .wait n => some n | _ => none

/-- A source slot reserved out for a move, or the refusal: a protected row (R46), or a slot that is not as it should be
(notes/assumptions/15.md). -/
def Work.takeSource (w : Work) (a : SlotAddr) (n : Nat) : Except (Reason × Byte) Work :=
  if w.isProtected a.row then .error (.rowProtected, 0#8)
  else
    match w.reserveOut a n with
    | some w => .ok w
    | none => .error (.slotTaken, 0#8)

/-- The source of a move reserved out, when it is a slot (R37, R48 (3), R140). -/
def Work.takePlace (w : Work) (p : Place) (n : Nat) : Except (Reason × Byte) Work :=
  match p with
  | .slot a => w.takeSource a n
  | _ => .ok w

/-- The sources of several dig-outs reserved out, in order (R48 (2)). -/
def Work.takeDigs (w : Work) : List (Dig × Nat) → Except (Reason × Byte) Work
  | [] => .ok w
  | (d, n) :: rest =>
    match w.takeSource d.1 n with
    | .ok w => w.takeDigs rest
    | .error e => .error e

/-- The destinations of several dig-outs found and reserved in, in order, `leaveOut` being left out; the top slot whose dig-out has no
candidate otherwise (R48 (4)). -/
def Work.placeDigs (w : Work) (leaveOut : List SlotAddr) : List (Dig × Nat) → Except SlotAddr (Work × List SlotAddr)
  | [] => .ok (w, [])
  | (d, n) :: rest =>
    match (w.findCoil d.2).bind fun k =>
      (w.layout.committed.slotPos d.1).bind fun o => w.autoSlot k.load o { leaveOut := leaveOut } with
    | none => .error d.1
    | some a =>
      match w.reserveIn a n with
      | none => .error d.1
      | some w =>
        match w.placeDigs leaveOut rest with
        | .ok r => .ok (r.1, a :: r.2)
        | .error e => .error e

/-- The records of the dig-outs of a main move (R49). -/
def digMoves (clock priority main : Nat) (l : List ((Dig × Nat) × SlotAddr)) : List Move :=
  l.map fun x =>
    { number := x.1.2, kind := .relocate, origin := .digout, coil := some x.1.1.2, source := some (.slot x.1.1.1)
      dest := .slot x.2, priority := priority, created := clock, digFor := some main }

/-! ### Destinations of a request -/

/-- A destination in the yard checked (R41) or searched (R42, R43) and reserved in for a move (R44, R48 (5)), or the refusal. -/
def Work.takeTarget (w : Work) (k : Coil) (n : Nat) (t : Target) : Except (Reason × Byte) (Work × SlotAddr) :=
  let found : Except (Reason × Byte) SlotAddr := match t with
    | .slot a => match w.namedFault k.load a with | some e => .error e | none => .ok a
    | .auto range =>
      match (w.placePos k.loc).bind fun o => w.autoSlot k.load o { range := range } with
      | some a => .ok a
      | none => .error (.noPlace, 0#8)
    | .runway _ => .error (.badField, 0#8)
  match found with
  | .error e => .error e
  | .ok a =>
    match w.reserveIn a n with
    | some w => .ok (w, a)
    | none => .error (.slotTaken, 0#8)

end Sys2Proof.Machine
end

