-- ==== Sys2Proof/Machine/Coils.lean ====
section
/-! DEFINITION. COIL_REGISTER (R26, R27), COIL_REMOVE (R30), COIL_ANNOUNCE (R28, R29). -/

namespace Sys2Proof.Machine

/-- A record enters the Coil Table in the lowest empty entry (R17). -/
def Work.enterCoil (w : Work) (k : Coil) : Work := { w with coils := w.coils.put (w.coils.lowestFrom 0) k }

/-- A record leaves the Coil Table. -/
def Work.dropCoil (w : Work) (id : MillId) : Work := { w with coils := w.coils.filter fun e => e.2.id != id }

/-- The Coil Table has an empty entry (R17). -/
def State.coilRoom (s : State) : Bool := decide (s.coils.length < 1024)

/-- The table checks of COIL_REGISTER and its effects (R26, R27). -/
def Work.register (w : Work) (k : Coil) (a : SlotAddr) : Handled :=
  if (w.findCoil k.id).isSome then w.refuse .coilExists 0
  else if !w.coilRoom then w.refuse .tableFull 0
  else
    match w.namedFault k.load a with
    | some e => (w, .refused e.1 e.2)
    | none =>
      match w.enterSlot a k.id with
      | some w' => (w'.enterCoil k).done (.entry (w.coils.lowestFrom 0))
      | none => w.refuse .slotTaken 0

/-- COIL_REGISTER (R26, R27). -/
def execCoilRegister (seq : Byte) (body : List Byte) (s : State) : Host.Outcome State Fault Refusal :=
  .next (s.request { code := 0x30, length := some 23, modes := [.setup, .quiesced] } seq body fun w =>
    w.fields (firstBad (coilChecks body)) fun w =>
      match slotAt body 21 with
      | none => w.refuse .badField 21
      | some a => w.register (newCoil body (.slot a) none) a)

/-- The table checks of COIL_REMOVE and its effects (R30). A slot that is not OCCUPIED although every check has passed, which needs tables that
disagree, gives 13 COIL_BLOCKED with a free detail (the model's choice where R30 and R37 are silent, notes/assumptions/15.md). -/
def Work.remove (w : Work) (id : MillId) : Handled :=
  match w.findCoil id with
  | none => w.refuseOpen .noCoil 30
  | some k =>
    match k.loc with
    | .slot a =>
      if k.active.isSome || k.visit.isSome then w.refuseOpen .coilBusy 30
      else if w.covered a then w.refuseOpen .coilBlocked 30
      else
        match w.vacateSlot a with
        | some w => (w.dropCoil id).done .plain
        | none => w.refuseOpen .coilBlocked 30
    | _ => w.refuseOpen .coilBusy 30

/-- COIL_REMOVE (R30). -/
def execCoilRemove (seq : Byte) (body : List Byte) (s : State) : Host.Outcome State Fault Refusal :=
  .next (s.request { code := 0x31, length := some 12, modes := [.setup, .quiesced] } seq body fun w =>
    w.fields (firstBad [(idOk (idAt body 1), 1)]) fun w => w.remove (idAt body 1))

/-- The table checks of COIL_ANNOUNCE and its effects (R28, R29). -/
def Work.announce (w : Work) (body : List Byte) (x : Saddle) (priority : Nat) : Handled :=
  let n := (w.nextNumbers 1).headD 0
  let k := newCoil body (.saddle x) none
  if (w.findCoil k.id).isSome then w.refuse .coilExists 0
  else if (w.yard.onSaddle x).isSome then w.refuse .slotTaken (saddleNum x)
  else if !w.coilRoom then w.refuse .tableFull 1
  else if !w.room 1 then w.refuse .tableFull 2
  else
    match w.takeTarget k n (.auto none) with
    | .error e => (w, .refused e.1 e.2)
    | .ok (w', a) =>
      let m : Move :=
        { number := n, kind := .store, origin := .link, coil := some k.id, source := some (.saddle x), dest := .slot a
          priority := priority, created := w.clock }
      let w' := (((w'.enterCoil k).setSaddle x (some k.id)).createMove m).moveNotice n
      w'.done (.announced (w.coils.lowestFrom 0) n a)

/-- COIL_ANNOUNCE (R28, R29). -/
def execCoilAnnounce (seq : Byte) (body : List Byte) (s : State) : Host.Outcome State Fault Refusal :=
  .next (s.request { code := 0x32, length := some 22, modes := [.run] } seq body fun w =>
    w.fields (firstBad (coilChecks body)) fun w =>
      match saddleOf (u8At body 21), priorityAt body 22 with
      | none, _ => w.refuse .badField 21
      | some _, none => w.refuse .badField 22
      | some x, some p => w.announce body x p)

end Sys2Proof.Machine
end

