-- ==== Sys2Proof/Machine/Events.lean ====
section
/-! DEFINITION. The events of the crane links (R85, R86, R93), of the timers (R65, R67, R114) and of the bridge converter (R57). -/

namespace Sys2Proof.Machine

/-! ### Crane links -/

/-- A status of a crane with an entry is taken (R86); one from a crane with no entry is discarded (R3, R85). -/
def Work.statusArrives (w : Work) (c : CraneId) (st : Status) : Work := if (w.craneEntry c).isSome then w.takeStatus c st else w

/-- CRANE_STATUS: a good status frame with these contents has been received (R86). -/
def execCraneStatus (c : CraneId) (st : Status) (s : State) : Host.Outcome State Fault Refusal := .next (s.event fun w => w.statusArrives c st)

/-- The status that bytes received on the link of a crane give, or why they are discarded (R85, R209). -/
def State.received (s : State) (c : CraneId) (got : List Byte) : Except DiscardReason Status :=
  match readStatusFrame got with
  | .error why => .error why
  | .ok st => if (s.craneEntry c).isSome then .ok st else .error .noEntry

/-- CRANE_STATUS_DISCARDED: the bytes of a frame are received that give no status of a crane with an entry: no sample, no restart of the report
timer, no check (R85, R209). The bytes alone decide it: should they spell a good status, that status is taken. -/
def execCraneStatusDiscarded (c : CraneId) (got : List Byte) (s : State) : Host.Outcome State Fault Refusal :=
  .next (s.event fun w => match w.received c got with | .error _ => w | .ok st => w.takeStatus c st)

/-- A frame broken off on a crane link is discarded (R209). -/
def execCraneFrameBrokenOff (_c : CraneId) (s : State) : Host.Outcome State Fault Refusal := .next (s.event fun w => w)

/-- The first expiry of a crane's report timer: one REPORT_LATE notice in each gap, none in STOPPED (R93 (1)). -/
def Work.lateReport (w : Work) (c : CraneId) : Work :=
  let r := w.cranes.get c
  if r.timer && !r.late && decide (w.link.mode ≠ .stopped) then
    (w.modCrane c fun r => { r with late := true }).notice (.reportLate c (r.last.map (·.2)))
  else w

/-- REPORT_LATE (R93 (1)). -/
def execReportLate (c : CraneId) (s : State) : Host.Outcome State Fault Refusal := .next (s.event fun w => w.lateReport c)

/-- 2-01 REPORT_LOST: the timer stops, the claim becomes the gap claim, the fault is raised, and the fences are tested (R93 (2), R122,
R124). -/
def Work.raiseLost (w : Work) (c : CraneId) : Work :=
  (((w.modCrane c fun r => { r with timer := false, fresh := false }).gapClaim c).raise (.crane c) 1 0).testFences

/-- The second expiry: T_r ms without a status. In STOPPED it raises nothing and leaves the timer running (R93). In STOPPED, and where RESTART has
stopped the timer, it still ends `fresh` (DESIGN CHOICE, notes/assumptions/3.md). -/
def Work.lostReport (w : Work) (c : CraneId) : Work :=
  if (w.cranes.get c).timer && decide (w.link.mode ≠ .stopped) then w.raiseLost c
  else w.modCrane c fun r => { r with fresh := false }

/-- REPORT_LOST (R93 (2)). -/
def execReportLost (c : CraneId) (s : State) : Host.Outcome State Fault Refusal := .next (s.event fun w => w.lostReport c)

/-! ### Timers -/

/-- The claim-wait timer of a crane's request expires; without a waiting request nothing happens (R114). -/
def execClaimWaitExpiry (c : CraneId) (s : State) : Host.Outcome State Fault Refusal :=
  .next (s.event fun w => if (w.runway.waits.get c).isSome then w.waitExpires c else w)

/-- A session whose settle time has expired (R65). -/
def Session.settled (x : Session) : Session := if x.stage = .settle then { x with stage := .window } else x

/-- The settle time of a session expires (R65). -/
def Work.settleExpires (w : Work) : Owner → Work
  | .crane c => w.modHook c fun h => { h with session := h.session.map Session.settled }
  | .bay b => w.modScale b fun x => { x with session := x.session.map Session.settled }

/-- SETTLE_EXPIRY (R65). -/
def execSettleExpiry (o : Owner) (s : State) : Host.Outcome State Fault Refusal := .next (s.event fun w => w.settleExpires o)

/-- The session of an owner. -/
def State.sessionOf (s : State) : Owner → Option Session
  | .crane c => (s.weighing.cranes.get c).session
  | .bay b => (s.weighing.bays.get b).session

/-- The session stands in stage WINDOW. -/
def State.inWindow (s : State) (o : Owner) : Bool := match s.sessionOf o with | some x => decide (x.stage = .window) | none => false

/-- A bay session that ended UNSTABLE is repeated at once with its notice (R75 (1)). -/
def Work.repeatBay (w : Work) (b : BayId) : Work :=
  let kind := (w.weighing.bays.get b).session.map (·.kind)
  (w.modScale b fun y =>
    { y with session := y.session.map fun x => { x with stage := .settle, window := [], started := w.clock } }).scaleNotice b kind
    .unstable none

/-- A session in WINDOW ends UNSTABLE (R67, R71, R75). -/
def Work.endUnstable (w : Work) : Owner → Work
  | .crane c => w.endHook c .unstable none
  | .bay b => w.repeatBay b

/-- STABILITY_TIMEOUT (R67); a session in another stage has no stability timeout running. -/
def execStabilityTimeout (o : Owner) (s : State) : Host.Outcome State Fault Refusal :=
  .next (s.event fun w => if w.inWindow o then w.endUnstable o else w)

/-! ### The bridge converter -/

/-- BAY_SCAN (R57); the scans of a bay with no entry are discarded (R7). -/
def execBayScan (b : BayId) (c1 c2 c3 c4 : Int) (s : State) : Host.Outcome State Fault Refusal :=
  .next (s.event fun w =>
    match w.bayEntry b with
    | some e => w.takeScan b e (bayConvert e c1 c2 c3 c4)
    | none => w)

end Sys2Proof.Machine
end

