-- ==== Sys2Proof/Machine/MoveCommands.lean ====
section
/-! DEFINITION. The move telegrams: MOVE_REQUEST (R139 to R141), MOVE_HOLD (R142), MOVE_RESUME (R143), MOVE_REDIRECT (R144, R145), MOVE_CANCEL
(R146, R147). -/

namespace Sys2Proof.Machine

/-- A refusal that carries its own detail. -/
def Work.refused (w : Work) (e : Reason × Byte) : Handled := (w, .refused e.1 e.2)

/-! ### MOVE_REQUEST -/

/-- The moves of an accepted RELOCATE and its reply (R49). The waits-for list of the main move has its own dig-outs first and then the other moves it
waits for: R50 and R208 order its members in no way (DESIGN CHOICE, notes/assumptions/46.md). -/
def Work.acceptRelocate (w : Work) (k : Coil) (priority n : Nat) (waits : List Nat) (digs : List ((Dig × Nat) × SlotAddr))
    (a : SlotAddr) : Handled :=
  let nums := digs.map (·.1.2)
  let main : Move :=
    { number := n, kind := .relocate, origin := .link, coil := some k.id, source := some k.loc, dest := .slot a
      priority := priority, waits := nums ++ waits, created := w.clock }
  let w := w.createMoves (digMoves w.clock priority n digs ++ [main])
  (w.moveNotices (nums ++ [n])).done (.requested n (.slot a) nums)

/-- The trial of a RELOCATE (R48) and its acceptance. -/
def Work.relocateTrial (w : Work) (k : Coil) (t : Target) (priority : Nat) : Handled :=
  let digs := w.digsOf (fun _ => none) k.loc
  if !w.room (digs.length + 1) then w.refuseOpen .tableFull 48
  else
    let nums := w.nextNumbers (digs.length + 1)
    let n := nums.getLastD 0
    let numbered := digs.zip nums
    match w.takeDigs numbered with
    | .error e => w.refused e
    | .ok w1 =>
      match w1.takePlace k.loc n with
      | .error e => w.refused e
      | .ok w2 =>
        match w2.placeDigs (w.coversOf k.loc) numbered with
        | .error top => w.refuse .coilBlocked top.pos
        | .ok (w3, places) =>
          match w3.takeTarget k n t with
          | .error e => w.refused e
          | .ok (w4, a) => w4.acceptRelocate k priority n (w.waitsOf (fun _ => none) k.loc) (numbered.zip places) a

/-- A RELOCATE (R140). -/
def Work.relocate (w : Work) (id : MillId) (t : Target) (priority : Nat) : Handled :=
  match w.findCoil id with
  | none => w.refuse .noCoil 0
  | some k =>
    match k.loc with
    | .slot _ | .saddle _ =>
      if k.active.isSome then w.refuse .coilBusy 2
      else if k.visit.isSome then w.refuse .coilBusy 3
      else
        match w.blockedBy k.loc with
        | some p => w.refuse .coilBlocked p
        | none => w.relocateTrial k t priority
    | .hook _ | .cradle _ _ => w.refuse .coilBusy 1

/-- A PUT_DOWN (R141). -/
def Work.putDown (w : Work) (id : MillId) (t : Target) (priority : Nat) : Handled :=
  match w.findCoil id with
  | none => w.refuseOpen .noCoil 141
  | some k =>
    match k.loc with
    | .hook _ =>
      if k.active.isSome then w.refuse .coilBusy 2
      else if !w.room 1 then w.refuseOpen .tableFull 141
      else
        let n := (w.nextNumbers 1).headD 0
        match w.takeTarget k n t with
        | .error e => w.refused e
        | .ok (w', a) =>
          let m : Move :=
            { number := n, kind := .putDown, origin := .link, coil := some k.id, source := some k.loc, dest := .slot a
              priority := priority, created := w.clock }
          ((w'.createMove m).moveNotice n).done (.requested n (.slot a) [])
    | _ => w.refuse .coilBusy 1

/-- A SHIFT (R141). -/
def Work.shift (w : Work) (c : CraneId) (x priority : Nat) : Handled :=
  if (w.craneEntry c).isNone then w.refuse .craneState 1
  else if !w.room 1 then w.refuseOpen .tableFull 141
  else
    let n := (w.nextNumbers 1).headD 0
    let m : Move :=
      { number := n, kind := .shift, origin := .link, coil := none, source := none, dest := .runway x, priority := priority
        created := w.clock, named := some c }
    ((w.createMove m).moveNotice n).done (.requested n (.runway x) [])

/-- MOVE_REQUEST (R139 to R141). -/
def execMoveRequest (seq : Byte) (body : List Byte) (s : State) : Host.Outcome State Fault Refusal :=
  .next (s.request { code := 0x40, length := some 19, modes := [.run] } seq body fun w =>
    match moveAskAt w.runwayLength body with
    | .error p => w.refuse .badField p
    | .ok (.relocate id t p) => w.relocate id t p
    | .ok (.putDown id t p) => w.putDown id t p
    | .ok (.shift c x p) => w.shift c x p)

/-! ### MOVE_HOLD and MOVE_RESUME -/

/-- MOVE_HOLD by the state of the move (R142). -/
def Work.hold (w : Work) (n : Nat) : Handled :=
  match w.findMove n with
  | none => w.refuseOpen .noMove 142
  | some m =>
    match m.state with
    | .active =>
      let w := (w.leaveActive n .hold).modMove n fun m => { m with state := .held, causes := { link := true } }
      (w.moveNotice n).done .plain
    | .held => w.done .plain
    | .queued | .parked | .faulted | .done | .cancelled => w.refuseOpen .moveState 142

/-- MOVE_HOLD (R142). -/
def execMoveHold (seq : Byte) (body : List Byte) (s : State) : Host.Outcome State Fault Refusal :=
  .next (s.request { code := 0x41, length := some 2, modes := [.run, .quiesced] } seq body fun w => w.hold (u16At body 1))

/-- LINK is the only cause. -/
def Causes.onlyLink (c : Causes) : Bool := c.link && !c.crane && !c.runway

/-- The move's crane is IN (YIELDING is a sub-state of IN, R81). -/
def State.craneIn (s : State) (m : Move) : Bool :=
  match m.crane with | some c => decide ((s.cranes.get c).service ≠ .out) | none => false

/-- The checks and effects of MOVE_RESUME (R143). -/
def Work.resume (w : Work) (n : Nat) : Handled :=
  match w.findMove n with
  | none => w.refuseOpen .noMove 143
  | some m =>
    if !(decide (m.state = .held) && m.causes.link) then w.refuseOpen .moveState 143
    else if m.causes.onlyLink && !w.craneIn m then w.refuse .craneState 2
    else if m.causes.onlyLink then (w.activate n).done .plain
    else (w.modMove n fun m => { m with causes := { m.causes with link := false } }).done .plain

/-- MOVE_RESUME (R143). -/
def execMoveResume (seq : Byte) (body : List Byte) (s : State) : Host.Outcome State Fault Refusal :=
  .next (s.request { code := 0x42, length := some 2, modes := [.run] } seq body fun w => w.resume (u16At body 1))

/-! ### MOVE_CANCEL -/

/-- The coil of the move is on a hook: the move has passed its grip, or is a PUT_DOWN that has been assigned (check 4 of R146). -/
def State.pastGrip (s : State) (m : Move) : Bool := s.coilOnHook m && (decide (m.kind ≠ .putDown) || m.crane.isSome)

/-- The checks and effects of MOVE_CANCEL (R146, R147). -/
def Work.cancel (w : Work) (n : Nat) : Handled :=
  match w.findMove n with
  | none => w.refuse .noMove 0
  | some m =>
    if !(w.waiters n).isEmpty then w.refuse .moveState 1
    else if m.state = .faulted then w.refuse .moveState 2
    else if w.pastGrip m then w.refuse .coilOnHook 0
    else if w.unanswered m false then w.refuse .moveState 3
    else (w.cancelMove n).done .plain

/-- MOVE_CANCEL (R146, R147). -/
def execMoveCancel (seq : Byte) (body : List Byte) (s : State) : Host.Outcome State Fault Refusal :=
  .next (s.request { code := 0x43, length := some 2, modes := [.run, .quiesced] } seq body fun w => w.cancel (u16At body 1))

/-! ### MOVE_REDIRECT -/

/-- The kept phase of a move with a new destination (R145 (2)). -/
def redirectPhase : Move → Option Phase
  | { phase := some .claimDest, .. } | { phase := some .travelDest, .. } | { phase := some .lowerSet, .. } => some .claimDest
  | { phase := some .bayWait, kind := .unload, .. } => some .bayWait
  | { phase := some .bayWait, .. } => some .claimDest
  | m => m.phase

/-- The old destination given up (R39, R145 (1), R161). -/
def Work.giveUpDest (w : Work) (m : Move) : Work :=
  match m.dest with
  | .slot a => w.releaseIn a m.number
  | .cradle _ _ => w.giveUpCradle m.number false
  | _ => w

/-- A redirect that found its slot, with the present destination counted as FREE (R144 check 4, R145). -/
def Work.redirectTo (w : Work) (m : Move) (a : SlotAddr) : Handled :=
  match (w.giveUpDest m).reserveIn a m.number with
  | none => w.refuse .slotTaken 0
  | some w => (w.modMove m.number fun m => { m with dest := .slot a, phase := redirectPhase m }).done (.redirected (.slot a))

/-- The slot of a redirect, or the refusal (R144 check 4). The present slot counts as FREE and is judged as any other: in a row protected since, it is
refused by name and passed over by a search, as R46 says of a redirect that releases a slot in such a row (DEDUCED, notes/assumptions/47.md). -/
def Work.redirectSlot (w : Work) (m : Move) (k : Coil) (t : Target) : Except (Reason × Byte) SlotAddr :=
  let w := match m.dest with | .slot a => w.releaseIn a m.number | _ => w
  match t with
  | .slot a => match w.namedFault k.load a with | some e => .error e | none => .ok a
  | .auto range =>
    match (w.placePos k.loc).bind fun o => w.autoSlot k.load o { range := range } with
    | some a => .ok a
    | none => .error (.noPlace, 0#8)
  | .runway _ => .error (.badField, 3#8)

/-- The checks and effects of MOVE_REDIRECT (R144, R145). -/
def Work.redirect (w : Work) (n : Nat) (t : Target) : Handled :=
  match w.findMove n with
  | none => w.refuse .noMove 0
  | some m =>
    if !(decide (m.state = .held) || decide (m.state = .faulted)) then w.refuse .moveState 1
    else if m.kind = .shift then w.refuse .moveState 2
    else
      match w.moveCoil m with
      | none => w.refuse .moveState 2
      | some k =>
        match w.redirectSlot m k t with
        | .error e => w.refused e
        | .ok a => w.redirectTo m a

/-- MOVE_REDIRECT (R144, R145). -/
def execMoveRedirect (seq : Byte) (body : List Byte) (s : State) : Host.Outcome State Fault Refusal :=
  .next (s.request { code := 0x44, length := some 6, modes := [.run, .quiesced] } seq body fun w =>
    match targetAt body 3 with
    | none => w.refuse .badField 3
    | some t => if t.isYard then w.redirect (u16At body 1) t else w.refuse .badField 3)

end Sys2Proof.Machine
end

