-- ==== Sys2Proof/Machine/RunwayCommands.lean ====
section
/-! DEFINITION. ROW_PROTECT (R45), FENCE_ADD (R121), FENCE_REMOVE (R123), CRANE_REINSTATE (R94, R95). -/

namespace Sys2Proof.Machine

/-- The modes of R45, R77, R121, R123 and R183. -/
def notStopped : List Mode := [.setup, .run, .quiesced]

/-- A row's protect flag set or cleared (R45). -/
def Work.protectRow (w : Work) (r : Nat) (on : Bool) : Work :=
  let rest := w.yard.protect.filter (· != r)
  { w with yard := { w.yard with protect := if on then insertNum r rest else rest } }

/-- ROW_PROTECT (R45). -/
def execRowProtect (seq : Byte) (body : List Byte) (s : State) : Host.Outcome State Fault Refusal :=
  .next (s.request { code := 0x50, length := some 2, modes := notStopped } seq body fun w =>
    w.fields (firstBad [(inRange 1 40 (u8At body 1), 1), (inRange 0 1 (u8At body 2), 2)]) fun w =>
      if (w.layout.committed.row (u8At body 1)).isNone then w.refuseOpen .noSuchSlot 45
      else (w.protectRow (u8At body 1) (decide (u8At body 2 = 0))).done .plain)

/-- The field check of a fence span against the runway length (R121). -/
def fenceBad (size : Option RunwaySize) (body : List Byte) : Option Nat :=
  firstBad [(decide (u16At body 1 ≤ u16At body 3), 1), (match size with | some z => decide (u16At body 3 ≤ z.length) | none => false, 3)]

/-- A fence takes the lowest unused number, PENDING while a claim touches it (R121). -/
def Work.addFence (w : Work) (lo hi : Nat) : Handled :=
  let n := w.runway.fences.lowestFrom 1
  if 4 < n then w.refuseOpen .fenceFull 121
  else
    let f : Fence := ⟨lo, hi, .active⟩
    let st : FenceState := if w.fenceTouched f then .pending else .active
    Work.done { w with runway := { w.runway with fences := w.runway.fences.put n { f with state := st } } } (.fence n st)

/-- FENCE_ADD (R121). -/
def execFenceAdd (seq : Byte) (body : List Byte) (s : State) : Host.Outcome State Fault Refusal :=
  .next (s.request { code := 0x51, length := some 4, modes := notStopped } seq body fun w =>
    w.fields (fenceBad w.layout.committed.size body) fun w => w.addFence (u16At body 1) (u16At body 3))

/-- FENCE_REMOVE (R123). -/
def execFenceRemove (seq : Byte) (body : List Byte) (s : State) : Host.Outcome State Fault Refusal :=
  .next (s.request { code := 0x52, length := some 1, modes := notStopped } seq body fun w =>
    w.fields (firstBad [(inRange 1 4 (u8At body 1), 1)]) fun w =>
      let inUse := (w.runway.fences.get? (u8At body 1)).isSome
      Work.done { w with
        runway := { w.runway with fences := w.runway.fences.erase (u8At body 1) }
        retry := w.retry || inUse } .plain)

/-! ### Reinstatement -/

/-- Another crane's claim stands against a new claim: it touches it or lies on the wrong side of it (R94 check 5, R110 (5)). -/
def claimAgainst (c j : CraneId) (sp : Span) (k : Claim) : Bool :=
  if craneNum j < craneNum c then !decide (k.hi < sp.1) else !decide (sp.2 < k.lo)

/-- What stands against the stationary claim of a crane at its last reported x: another crane's number, else 10 + a fence number
(R94 check 5). -/
def State.reinstateBlock (s : State) (c : CraneId) : Option Nat :=
  let sp := s.stationary c (s.craneX c)
  match allCranes.find? fun j =>
      decide (j ≠ c) && (match s.runway.claims.get j with | some k => claimAgainst c j sp k | none => false) with
  | some j => some (craneNum j)
  | none => (s.fenceObstacles.find? fun f => Span.touches f.2 sp).map (10 + ·.1)

/-- The kept phase of the current move of a reinstated crane (R95 (2)). -/
def reinstatedPhase : Option Phase → Option Phase
  | some .travelSrc => some .claimSrc
  | some .travelDest => some .claimDest
  | ph => ph

/-- The put-down-first field after a reinstatement: the coil on the hook where the last status shows it GRIPPED and no current move of the
crane names it; absent where the status shows the hook OPEN under a coil; otherwise as it stands (R95). -/
def State.putDownOf (s : State) (c : CraneId) : Option MillId :=
  let kept := (s.cranes.get c).putDownFirst
  match (s.cranes.get c).last, s.hookCoil c with
  | some (st, _), some k =>
    if st.hook = .opened then none
    else if (s.currentMove c).bind (·.coil) ≠ some k.id then some k.id else kept
  | _, _ => kept

/-- The claim of a reinstated crane becomes its stationary claim (R95 (1), R125). It is smaller than the old one when its stretch is shorter,
wherever the two lie (DESIGN CHOICE, notes/assumptions/54.md). -/
def Work.reinstateClaim (w : Work) (c : CraneId) : Work :=
  let sp := w.stationary c (w.craneX c)
  let smaller := match w.runway.claims.get c with | some k => decide (sp.2 - sp.1 < k.hi - k.lo) | none => false
  let w := (w.setClaim c (some ⟨sp.1, sp.2, .stationary⟩)).testFences
  { w with retry := w.retry || smaller, dispatch := w.dispatch || smaller }

/-- A reinstatement that passes (R95). -/
def Work.reinstate (w : Work) (c : CraneId) : Work :=
  let w := w.reinstateClaim c
  let w := (w.modCrane c fun r => { r with service := .inService }).notice (.craneState c .inService .reinstate)
  let w := match (w.cranes.get c).current with
    | some n => w.modMove n fun m => { m with phase := reinstatedPhase m.phase }
    | none => w
  let field := w.putDownOf c
  (w.modCrane c fun r => { r with putDownFirst := field }).noteIdle c

/-- The checks of CRANE_REINSTATE (R94). -/
def Work.tryReinstate (w : Work) (c : CraneId) : Handled :=
  if (w.craneEntry c).isNone then w.refuse .craneState 1
  else if (w.cranes.get c).service ≠ .out then w.refuse .craneState 2
  else if (w.cranes.get c).fault.isSome then w.refuse .craneState 3
  else if !((w.cranes.get c).fresh && (w.cranes.get c).last.isSome) then w.refuse .craneState 4
  else
    match w.reinstateBlock c with
    | some d => w.refuse .claimOverlap d
    | none => (w.reinstate c).done .plain

/-- CRANE_REINSTATE (R94, R95). -/
def execCraneReinstate (seq : Byte) (body : List Byte) (s : State) : Host.Outcome State Fault Refusal :=
  .next (s.request { code := 0x60, length := some 1, modes := [.run, .quiesced] } seq body fun w =>
    match craneOf (u8At body 1) with
    | none => w.refuse .badField 1
    | some c => w.tryReinstate c)

end Sys2Proof.Machine
end

