-- ==== Sys2Proof/Machine/FaultClear.lean ====
section
/-! DEFINITION. FAULT_CLEAR (R183) with its actions RETRY (R184), CANCEL (R185), CLEAR and REASSIGN of a crane (R186, R187) and CLEAR of the
runway (R188). -/

namespace Sys2Proof.Machine

/-- The FAULT_CLEARED notice of a closed part (R183). -/
def Work.clearedNotice (w : Work) (sj : Subject) (f : FaultPart) (a : ClearAction) : Work :=
  w.notice (.faultCleared sj f.cls f.code f.detail a)

/-- A move's fault part closed: the unexpected-load latch of its crane is cleared (R62 (3), R183). -/
def Work.closeMove (w : Work) (m : Move) (f : FaultPart) (a : ClearAction) : Work :=
  let w := (w.clearedNotice (.move m.number) f a).modMove m.number fun m => { m with fault := none }
  match m.crane with
  | some c => w.modHook c fun h => { h with unexpected := false }
  | none => w

/-- No cause is held. -/
def Causes.isEmpty (c : Causes) : Bool := !c.link && !c.crane && !c.runway

/-- RETRY (R184). -/
def Work.retryMove (w : Work) (m : Move) (f : FaultPart) : Handled :=
  if w.link.mode ≠ .run then w.refuse .badMode 1
  else if f.held.isEmpty then
    if !w.craneIn m then w.refuse .craneState 2 else ((w.closeMove m f .retry).activate m.number).done .plain
  else
    let w := (w.closeMove m f .retry).modMove m.number fun m => { m with state := .held, causes := f.held }
    (w.moveNotice m.number).done .plain

/-- CANCEL (R185). -/
def Work.cancelFaulted (w : Work) (m : Move) (f : FaultPart) : Handled :=
  if w.link.mode = .setup then w.refuse .badMode 1
  else if !(w.waiters m.number).isEmpty then w.refuse .moveState 1
  else if w.pastGrip m then w.refuse .coilOnHook 0
  else if w.unanswered m false then w.refuse .moveState 3
  else ((w.closeMove m f .cancel).cancelMove m.number).done .plain

/-- The checks of R183 for a move, and its action. -/
def Work.clearMove (w : Work) (n : Nat) (act : Work → Move → FaultPart → Handled) : Handled :=
  match w.findMove n with
  | none => w.refuseOpen .noMove 183
  | some m =>
    match m.fault with
    | none => w.refuseOpen .faultNone 183
    | some f => act w m f

/-- A cause replaced by LINK, where it stands (R186 (2), R188). -/
def Causes.craneToLink (c : Causes) : Causes := { c with crane := false, link := true }

/-- RUNWAY replaced by LINK, where it stands (R188). -/
def Causes.runwayToLink (c : Causes) : Causes := if c.runway then { c with runway := false, link := true } else c

/-- The current move of a crane whose fault is cleared (R186 (2)). -/
def Move.afterCraneClear (m : Move) : Move :=
  match m.state with
  | .held => { m with causes := m.causes.craneToLink }
  | .faulted => { m with fault := m.fault.map fun f => { f with held := f.held.craneToLink } }
  | _ => m

/-- CLEAR of a crane (R183, R186). -/
def Work.clearCrane (w : Work) (c : CraneId) (f : FaultPart) (a : ClearAction) : Work :=
  let w := (w.clearedNotice (.crane c) f a).modCrane c fun r => { r with fault := none, claimLatch := false }
  let w := w.modHook c fun h => { h with overload := false, signal := false }
  match (w.cranes.get c).current with
  | some n => w.modMove n Move.afterCraneClear
  | none => w

/-- The current move of a crane is returned by REASSIGN (R187 (1)). -/
def State.returnsCurrent (s : State) (c : CraneId) : Option Nat :=
  match s.currentMove c with
  | some m => if m.state = .held ∧ !s.coilOnHook m ∧ !s.unanswered m true then some m.number else none
  | none => none

/-- The moves of a crane given back to the queue (R187). The run of the Dispatcher is that of a move returned (R135 (1)): a REASSIGN that returns no
move starts none (DEDUCED, notes/assumptions/45.md). -/
def Work.reassign (w : Work) (c : CraneId) : Work :=
  let current := w.returnsCurrent c
  let l := current.toList ++ (w.cranes.get c).park.reverse
  let w := (if current.isSome then w.setCurrent c none else w).modCrane c fun r => { r with park := [] }
  let w := l.foldl (fun w n => w.modMove n fun m => { m with state := .queued, causes := {}, crane := none }) w
  if l.isEmpty then w else l.foldl (fun w n => w.moveNotice n) (w.returnToQueue l)

/-- FAULT_CLEAR naming a crane (R183, R186, R187). -/
def Work.clearCraneChecked (w : Work) (c : CraneId) (reassign : Bool) : Handled :=
  if (w.craneEntry c).isNone then w.refuse .craneState 1
  else
    match (w.cranes.get c).fault with
    | none => w.refuseOpen .faultNone 183
    | some f =>
      if reassign then ((w.clearCrane c f .reassign).reassign c).done .plain else (w.clearCrane c f .clear).done .plain

/-- A move when the freeze ends (R188). -/
def Move.afterRunwayClear (m : Move) : Move :=
  { m with
    causes := m.causes.runwayToLink
    fault := m.fault.map fun f => { f with held := f.held.runwayToLink } }

/-- The crane's current move keeps a TRAVEL phase (R126). -/
def State.keepsTravel (s : State) (c : CraneId) : Bool :=
  match s.currentMove c with
  | some m => decide (m.phase = some .travelSrc) || decide (m.phase = some .travelDest)
  | none => false

/-- One claim at the end of a freeze (R126). -/
def Work.thawClaim (w : Work) (c : CraneId) : Work :=
  if (w.cranes.get c).last.isSome && !w.keepsTravel c then (w.narrowClaim c (w.craneX c)).getD w else w

/-- CLEAR of the runway (R183, R188): every claim shrinks, and then the fences are tested once (R126). -/
def Work.clearRunway (w : Work) (f : FaultPart) : Work :=
  let w := w.clearedNotice .runway f .clear
  let w : Work :=
    { w with
      runway := { w.runway with fault := none, frozen := false, sepLatches := [] }
      moves := { w.moves with table := w.moves.table.mapVals Move.afterRunwayClear } }
  let w := (allCranes.foldl (fun w c => w.thawClaim c) w).testFences
  { w with retry := true, pop := true, dispatch := true }

/-- FAULT_CLEAR naming the runway. -/
def Work.clearRunwayChecked (w : Work) : Handled :=
  match w.runway.fault with
  | none => w.refuseOpen .faultNone 183
  | some f => (w.clearRunway f).done .plain

/-- FAULT_CLEAR (R183). -/
def execFaultClear (seq : Byte) (body : List Byte) (s : State) : Host.Outcome State Fault Refusal :=
  .next (s.request { code := 0x61, length := some 4, modes := notStopped } seq body fun w =>
    match clearAskAt body with
    | .error p => w.refuse .badField p
    | .ok (.retry n) => w.clearMove n Work.retryMove
    | .ok (.cancel n) => w.clearMove n Work.cancelFaulted
    | .ok (.crane c r) => w.clearCraneChecked c r
    | .ok .runway => w.clearRunwayChecked
    | .ok .coordinator => w.refuseOpen .faultNone 183)

end Sys2Proof.Machine
end

