-- ==== Sys2Proof/Machine/LayoutEdit.lean ====
section
/-! DEFINITION. The layout telegrams: editing the working image (R2 to R11) and its commit (R12, R13). -/

namespace Sys2Proof.Machine

/-- The layout is locked (R11). -/
def State.locked (s : State) : Bool := !s.coils.isEmpty || allBays.any fun b => (s.visitOf b).isSome

/-- The working image, which is open in SETUP (R9). -/
def State.workingImage (s : State) : Image := s.layout.working.getD s.layout.committed

/-- The working image changed (R10). -/
def Work.edit (w : Work) (f : Image → Image) : Work :=
  { w with layout := { w.layout with working := some (f w.workingImage) } }

/-- An edit that passed its field check: refused while the layout is locked (R11), otherwise done (R10). -/
def Work.editUnlocked (w : Work) (r : Result) (f : Image → Image) : Handled :=
  if w.locked then w.refuseOpen .layoutLocked 11 else (w.edit f).done r

/-- The telegrams taken in SETUP only (section 10.3). -/
def layoutTaken (code length : Nat) : Taken := { code := code, length := some length, modes := [.setup] }

/-- LAYOUT_BEGIN (R9). -/
def execLayoutBegin (seq : Byte) (body : List Byte) (s : State) : Host.Outcome State Fault Refusal :=
  .next (s.request (layoutTaken 0x10 1) seq body fun w =>
    w.fields (firstBad [(inRange 0 1 (u8At body 1), 1)]) fun w =>
      (w.edit fun _ => if u8At body 1 = 0 then w.layout.committed else {}).done .plain)

/-- LAYOUT_RUNWAY (R2). -/
def execLayoutRunway (seq : Byte) (body : List Byte) (s : State) : Host.Outcome State Fault Refusal :=
  .next (s.request (layoutTaken 0x11 10) seq body fun w =>
    w.fields (runwayBad body) fun w => w.editUnlocked .plain fun img =>
      { img with
        size := some ⟨u16At body 1, u16At body 3⟩
        margin := orDefault (u16At body 5) 200
        tolerance := orDefault (u16At body 7) 50
        sMin := orDefault (u16At body 9) 100 })

/-- LAYOUT_CRANE (R3). -/
def execLayoutCrane (seq : Byte) (body : List Byte) (s : State) : Host.Outcome State Fault Refusal :=
  .next (s.request (layoutTaken 0x12 22) seq body fun w =>
    w.fields (craneBad body) fun w => w.editUnlocked .plain fun img =>
      match craneOf (u8At body 1) with
      | some c => { img with cranes := img.cranes.set c (if u8At body 2 = 0 then some (craneEntryAt body) else none) }
      | none => img)

/-- LAYOUT_ROW (R4). -/
def execLayoutRow (seq : Byte) (body : List Byte) (s : State) : Host.Outcome State Fault Refusal :=
  .next (s.request (layoutTaken 0x13 15) seq body fun w =>
    w.fields (rowBad body) fun w => w.editUnlocked .plain fun img =>
      { img with
        rows := if u8At body 2 = 0 then img.rows.put (u8At body 1) (rowEntryAt body) else img.rows.erase (u8At body 1) })

/-- LAYOUT_INTAKE (R6). -/
def execLayoutIntake (seq : Byte) (body : List Byte) (s : State) : Host.Outcome State Fault Refusal :=
  .next (s.request (layoutTaken 0x14 6) seq body fun w =>
    w.fields (intakeBad body) fun w => w.editUnlocked .plain fun img =>
      { img with intake := some ⟨u16At body 1, u16At body 3, u16At body 5⟩ })

/-- LAYOUT_BAY (R7). -/
def execLayoutBay (seq : Byte) (body : List Byte) (s : State) : Host.Outcome State Fault Refusal :=
  .next (s.request (layoutTaken 0x15 42) seq body fun w =>
    w.fields (bayBad body) fun w => w.editUnlocked .plain fun img =>
      match bayOf (u8At body 1) with
      | some b => { img with bays := img.bays.set b (if u8At body 2 = 0 then some (bayEntryAt body) else none) }
      | none => img)

/-- LAYOUT_TUNING (R8). -/
def execLayoutTuning (seq : Byte) (body : List Byte) (s : State) : Host.Outcome State Fault Refusal :=
  .next (s.request (layoutTaken 0x16 13) seq body fun w =>
    w.editUnlocked (.clamped (tuningClamped body)) fun img => { img with tuning := tuningAt body })

/-! ### Commit (R12, R13) -/

/-- The crane entries of an image, by ascending number. -/
def Image.craneList (img : Image) : List CraneEntry := allCranes.filterMap img.cranes.get

/-- The largest half-width (R12). -/
def Image.hMax (img : Image) : Nat := (img.craneList.map (·.h)).foldl max 0

/-- A position lies in the working span (R12). -/
def Image.inSpan (img : Image) (x : Nat) : Bool :=
  match img.size with
  | some z => decide (img.hMax + img.margin ≤ x) && decide (x + img.hMax + img.margin ≤ z.length)
  | none => false

/-- A trolley position lies within the trolley range. -/
def Image.inTrolley (img : Image) (y : Nat) : Bool := match img.size with | some z => decide (y ≤ z.range) | none => false

/-- Some crane number with an entry follows one without (R12, check 3). -/
def Image.craneGap (img : Image) : Bool :=
  let p (c : CraneId) : Bool := (img.cranes.get c).isSome
  (!p .c1 && (p .c2 || p .c3 || p .c4)) || (!p .c2 && (p .c3 || p .c4)) || (!p .c3 && p .c4)

/-- The checks 21 to 24 of one bay (R12). -/
def Image.bayFault (img : Image) (b : BayId) (f : BayEntry → Bool) : Bool :=
  match img.bays.get b with | some e => f e | none => false

/-- The two bay spans share a point (R12, check 25). -/
def Image.baysMeet (img : Image) : Bool :=
  match img.bays.b1, img.bays.b2 with
  | some a, some b => decide (a.bx0 ≤ b.bx1 ∧ b.bx0 ≤ a.bx1)
  | _, _ => false

/-- The intake checks 10 to 13 (R12). -/
def Image.intakeFaults (img : Image) : List (Bool × Nat) :=
  match img.intake with
  | none => []
  | some i =>
    [(!img.inSpan i.x, 10), (!img.inTrolley i.yA, 11), (!img.inTrolley i.yB, 12), (decide (i.yA = i.yB), 13)]

/-- The image checks of R12 in ascending order of their code, each with whether it fails. -/
def Image.checks (img : Image) : List (Bool × Nat) :=
  [(img.size.isNone, 1), (img.craneList.isEmpty, 2), (img.craneGap, 3), (img.intake.isNone, 4), (img.rows.isEmpty, 5)]
    ++ img.intakeFaults
    ++ allBays.map (fun b => (img.bayFault b fun e => !img.inSpan e.bx0 || !img.inSpan e.bx1, 20 + bayNum b))
    ++ allBays.map (fun b => (img.bayFault b fun e => !img.inTrolley e.yt, 22 + bayNum b))
    ++ [(img.baysMeet, 25)]
    ++ img.rows.map (fun r => (!img.inSpan r.2.x, 40 + r.1))
    ++ img.rows.map (fun r => (!img.inTrolley (r.2.y0 + (r.2.b - 1) * r.2.pitch), 80 + r.1))
    ++ img.rows.map (fun r => (img.rows.any fun q => decide (q.1 < r.1) && decide (q.2.x = r.2.x), 120 + r.1))

/-- The code of the first image check that fails (R12). -/
def Image.commitFault (img : Image) : Option Nat := (img.checks.find? (·.1)).map (·.2)

/-- A commit that passes: ACCEPTED, and the store write begins (R13). -/
def Work.beginWrite (w : Work) (img : Image) : Handled :=
  ({ w with layout := { w.layout with writing := some img, nv := { w.layout.nv with complete := false } } }, .accepted)

/-- The checks and effects of LAYOUT_COMMIT (R12, R13). -/
def Work.commit (w : Work) : Handled :=
  if w.locked then w.refuseOpen .layoutLocked 11
  else if !w.moves.table.isEmpty then w.refuseOpen .moveState 12
  else if allBays.any fun b => (w.weighing.bays.get b).session.isSome then w.refuseOpen .scaleState 12
  else
    match w.workingImage.commitFault with
    | some k => w.refuse .layoutInvalid k
    | none => w.beginWrite w.workingImage

/-- LAYOUT_COMMIT (R12, R13). -/
def execLayoutCommit (seq : Byte) (body : List Byte) (s : State) : Host.Outcome State Fault Refusal :=
  .next (s.request (layoutTaken 0x17 0) seq body fun w => w.commit)

end Sys2Proof.Machine
end

