-- ==== Sys2Proof/Machine/Lines.lean ====
section
/-! DEFINITION. The bay lines: secured and unsecured (R151), the line drop (R167), departure (R171), the abandoned zero (R78). -/

namespace Sys2Proof.Machine

/-- The state of a bay's visit. -/
def State.visitState (s : State) (b : BayId) : Option VisitState := (s.visitOf b).map (·.state)

/-- The bay becomes secured (R151). -/
def Work.baySecured (w : Work) (b : BayId) : Work :=
  match w.visitState b with
  | some .securing => (w.setVisitState b .taring .secured).startBay b .tare none
  | some .loading | some .unloading => w.oweGrant b
  | some .paused => w.startBay b .recheck none
  | some .verifying => w.startBay b .gross none
  | _ => w

/-- The holder of the set-down lock is lowering at the bay: it is sent ABORT_LOWER, its lock is released, and it goes to BAY_WAIT when the
abort is done (R105, R167 (1)). -/
def Work.abortHolder (w : Work) (b : BayId) : Work :=
  match (w.bays.get b).lock.bind w.findMove with
  | none => w
  | some m =>
    match m.crane with
    | none => w
    | some c =>
      if m.state = .active && isLowering m.phase then
        ((w.sendAbort c true).releaseLock m.number).modMove m.number fun m => { m with afterAbort := some .bayWait }
      else w

/-- The line drop (R167). -/
def Work.lineDrop (w : Work) (b : BayId) : Work :=
  let w := (w.abortHolder b).discardBay b
  match w.visitState b with
  | some .loading => w.setVisitState b .paused .unsecured
  | _ => w

/-- The bay becomes unsecured (R151). In PAUSED and VERIFYING whatever session the bay has is discarded: R151 names a running RECHECK and the
GROSS session, and says nothing of a SETDOWN that a late set has started in PAUSED (DEDUCED, notes/assumptions/41.md). -/
def Work.bayUnsecured (w : Work) (b : BayId) : Work :=
  match w.visitState b with
  | some .taring => (w.discardBay b).setVisitState b .securing .unsecured
  | some .ready => w.setVisitState b .securing .unsecured
  | some .loading | some .unloading => w.lineDrop b
  | some .paused | some .verifying => w.discardBay b
  | _ => w

/-- A DEPARTING visit is removed when IN_POSITION is seen deasserted (R171). -/
def Work.seeDeparture (w : Work) (b : BayId) : Work :=
  if w.visitState b = some .departing ∧ !(w.bays.get b).inPosition then w.removeVisit b else w

/-- A bay with one line at a level. -/
def Bay.withLine (x : Bay) (l : Line) (asserted : Bool) : Bay :=
  match l with
  | .inPosition => { x with inPosition := asserted }
  | .safe => { x with safe := asserted }

/-- What a change of line does to the visit and the scale, in every mode but STOPPED (R151, R167, R171). -/
def Work.followLine (w : Work) (b : BayId) (before : Bay) : Work :=
  let now := (w.bays.get b).secured
  let w := if now && !before.secured then w.baySecured b else if !now && before.secured then w.bayUnsecured b else w
  if before.inPosition then w.seeDeparture b else w

/-- A line takes a level (R151). The line states follow the inputs in every mode; IN_POSITION asserted abandons a ZERO session (R78). -/
def Work.changeLine (w : Work) (b : BayId) (l : Line) (asserted : Bool) : Work :=
  let before := w.bays.get b
  let w := w.modBay b fun x => x.withLine l asserted
  let w := if (w.bays.get b).inPosition && !before.inPosition then w.abandonZero b else w
  if w.link.mode = .stopped then w else w.followLine b before

/-- BAY_LINE_CHANGE (R151). -/
def execBayLineChange (b : BayId) (l : Line) (asserted : Bool) (s : State) : Host.Outcome State Fault Refusal :=
  .next (s.event fun w => w.changeLine b l asserted)

end Sys2Proof.Machine
end

