-- ==== Sys2Proof/Machine/Modes.lean ====
section
/-! DEFINITION. The changes of mode: RUN_START (R201), QUIESCE (R202), ENTER_SETUP (R203) and RESTART (R204, with R34, R79, R81, R107, R108,
R175, R189). -/

namespace Sys2Proof.Machine

/-- RUN_START (R201). -/
def execRunStart (seq : Byte) (body : List Byte) (s : State) : Host.Outcome State Fault Refusal :=
  .next (s.request { code := 0x20, length := some 0, modes := [.setup, .quiesced] } seq body fun w =>
    if w.layout.valid then Work.done { w.changeMode .run .runStart with pop := true, dispatch := true } .plain
    else w.refuse .layoutInvalid 0)

/-- Some unfinished move is in a state. -/
def State.anyMove (s : State) (st : MoveState) : Bool := s.moves.table.vals.any fun m => decide (m.state = st)

/-- QUIESCE (R202). -/
def execQuiesce (seq : Byte) (body : List Byte) (s : State) : Host.Outcome State Fault Refusal :=
  .next (s.request { code := 0x21, length := some 0, modes := [.run] } seq body fun w =>
    if w.anyMove .active then w.refuse .moveState 1
    else if w.anyMove .held then w.refuse .moveState 2
    else (w.changeMode .quiesced .quiesce).done .plain)

/-- ENTER_SETUP (R203). -/
def execEnterSetup (seq : Byte) (body : List Byte) (s : State) : Host.Outcome State Fault Refusal :=
  .next (s.request { code := 0x22, length := some 0, modes := [.quiesced] } seq body fun w =>
    match allCranes.find? fun c => decide ((w.cranes.get c).service = .yielding) with
    | some c => w.refuse .craneState (craneNum c)
    | none =>
      let w := w.changeMode .setup .enterSetup
      Work.done { w with layout := { w.layout with working := some w.layout.committed } } .plain)

/-! ### RESTART -/

/-- STOP to every crane whose link is alive and that has no ABORT_LOWER outstanding (R84, R107). -/
def Work.restartStops (w : Work) : Work := allCranes.foldl (fun w c => w.stopIfAlive c) w

/-- A crane's record at RESTART (R81, R93, R107). RESTART stops the timer and keeps the last status, so `fresh` stands until the command that
says that T_r has passed (R94 check 4; DESIGN CHOICE, notes/assumptions/3.md). -/
def CraneRec.restart (r : CraneRec) : CraneRec :=
  { r with
    service := .out, seen := false, timer := false, late := false, order := none, current := none, park := []
    putDownFirst := none, claimLatch := false, drive := 0, fault := none }

/-- A cradle of the visit is LOADED. -/
def Visit.loadedAt (v : Visit) (k : Nat) : Bool :=
  match v.cradle k with
  | some x => match x.state with | .loaded _ _ => true | .free | .reserved _ => false
  | none => false

/-- An entry that RESTART makes WITHDRAWN: PLANNED or MOVING in LOADING and PAUSED, ON_TRUCK in UNLOADING when its cradle is no longer LOADED
(R175). -/
def entryWithdrawn (v : Visit) (e : Entry) : Bool :=
  match v.state with
  | .loading | .paused => e.state.pending
  | .unloading => decide (e.state = .onTruck) && !v.loadedAt e.cradle
  | _ => false

/-- The state of a visit after RESTART, before the lines are read (R175). -/
def VisitState.restart : VisitState → VisitState
  | .loading | .paused => .verifying
  | .unloading => .discrepancy
  | st => st

/-- A cradle after RESTART: a reservation and a picking move end with the Move Table (R175). -/
def CradleState.restart : CradleState → CradleState
  | .free | .reserved _ => .free
  | .loaded id _ => .loaded id none

/-- A visit at RESTART (R175). -/
def Visit.restart (v : Visit) : Visit :=
  { v with
    cradles := v.cradles.map fun k => { k with state := k.state.restart }
    plan := v.plan.map fun e => if entryWithdrawn v e then { e with state := .withdrawn } else e
    state := v.state.restart }

/-- A bay at RESTART: its lines stay, lock and waiting order are emptied, its visit is changed by its state (R165, R175). -/
def Bay.restart (b : Bay) : Bay := { b with visit := b.visit.map Visit.restart, lock := none, waiting := [] }

/-- Some entry of the visit names the coil and becomes WITHDRAWN at RESTART. -/
def Bay.withdrawsCoil (b : Bay) (id : MillId) : Bool :=
  match b.visit with
  | some v => v.plan.any fun e => decide (e.coil = id) && entryWithdrawn v e
  | none => false

/-- A coil record at RESTART (R34 (1), (2)). -/
def Coil.restart (bays : PerBay Bay) (k : Coil) : Coil :=
  { k with active := none, visit := if allBays.any fun b => (bays.get b).withdrawsCoil k.id then none else k.visit }

/-- The slot table rebuilt from the Coil Table: a slot named as the location of a coil is OCCUPIED with it, of several the one of the
lowest entry; every other slot is FREE (R34 (3)). -/
def rebuildSlots (img : Image) (coils : Table Coil) : Table SlotEntry :=
  coils.foldl (fun t e =>
    match e.2.loc with
    | .slot a => if img.slotExists a && (t.get? a.key).isNone then t.put a.key ⟨a, .occupied e.2.id⟩ else t
    | _ => t) []

/-- The coil whose location is a saddle (R34 (4)). -/
def coilOnSaddle (coils : Table Coil) (x : Saddle) : Option MillId := (coils.vals.find? fun k => k.loc == .saddle x).map (·.id)

/-- The lines are read as if each had just changed (R175). -/
def Work.readLines (w : Work) (b : BayId) : Work :=
  let w :=
    if (w.bays.get b).secured then
      match w.visitState b with
      | some .taring => w.startBay b .tare none
      | _ => w.baySecured b
    else w.bayUnsecured b
  w.seeDeparture b

/-- RESTART in every block but the Link Controller. -/
def Work.restartBlocks (w : Work) : Work :=
  let w := w.restartStops
  let coils := w.coils.mapVals fun k => k.restart w.bays
  { w with
    layout := { w.layout with working := none }
    yard := { w.yard with
      slots := rebuildSlots w.layout.committed coils
      ia := coilOnSaddle coils .ia
      ib := coilOnSaddle coils .ib }
    coils := coils
    weighing :=
      { cranes := w.weighing.cranes.map fun _ h => { h with session := none, overload := false, signal := false, unexpected := false }
        bays := w.weighing.bays.map fun _ x => { x with session := none } }
    cranes := w.cranes.map fun _ r => r.restart
    moves := { w.moves with table := [], queue := [] }
    runway := { w.runway with
      claims := .all none, waits := .all none, yields := .all none
      fences := w.runway.fences.mapVals fun f => { f with state := .active }
      frozen := false, sepLatches := [], fault := none }
    bays := w.bays.map fun _ b => b.restart
    coordFault := none }

/-- RESTART in the Link Controller: the queue emptied, the cursor reset, the mode QUIESCED with its notice first (R204 (1) to (3)). -/
def Work.restartLink (w : Work) (old : Mode) : Work :=
  { w with
    link := { w.link with mode := .quiesced, notices := [], lost := false, fetch := none, cursor := (.coils, 0) }
    out := [.modeChange (some old) .quiesced .restart] }

/-- RESTART (R204). Bay 1 reads its lines before bay 2, and so their TRUCK_STATE notices stand in this order: R175 and R204 give the two bays
no order (DESIGN CHOICE, notes/assumptions/43.md). -/
def Work.restartAll (w : Work) : Work :=
  allBays.foldl (fun w b => w.readLines b) (w.restartBlocks.restartLink w.link.mode)

/-- RESTART (R204). -/
def execRestart (seq : Byte) (body : List Byte) (s : State) : Host.Outcome State Fault Refusal :=
  .next (s.request { code := 0x23, length := some 0, modes := everyMode } seq body fun w => w.restartAll.done .plain)

end Sys2Proof.Machine
end

