-- ==== Sys2Proof/Machine/Queries.lean ====
section
/-! DEFINITION. The telegrams that read: IDENTIFY (R199), STATUS (R198), CURSOR_SET (R196), READ_NEXT (R197), NOTICE_FETCH (R195). -/

namespace Sys2Proof.Machine

/-- What IDENTIFY returns (R199). -/
def State.identity (s : State) : Identity :=
  let img := s.layout.committed
  { mode := s.link.mode
    valid := s.layout.valid
    edition := s.layout.edition
    cranes := (allCranes.filter fun c => (img.cranes.get c).isSome).length
    rows := img.rows.length
    slots := img.slots.length
    bays := (allBays.filter fun b => (img.bays.get b).isSome).length }

/-- IDENTIFY (R199). -/
def execIdentify (seq : Byte) (body : List Byte) (s : State) : Host.Outcome State Fault Refusal :=
  .next (s.request { code := 0x01, length := some 0, modes := everyMode, whileBusy := true } seq body fun w =>
    w.done (.identity w.identity))

/-- What STATUS returns (R198). -/
def State.summary (s : State) : Summary :=
  { mode := s.link.mode
    busy := s.busy
    clock := s.clock
    coils := s.coils.length
    moves := s.moves.table.length
    notices := s.link.notices.length
    lost := s.link.lost
    cranes := s.cranes.map fun c r => (r.service, s.runway.permit.get c, r.fault.map (·.cls))
    frozen := s.runway.frozen
    runwayFault := s.runway.fault.map fun f => (f.cls, f.code)
    coordFault := s.coordFault.map fun f => (f.cls, f.code)
    bays := s.bays.map fun b x => (x.visit.map (·.state), (s.weighing.bays.get b).state, x.secured) }

/-- STATUS: the lost flag is cleared at the reply that carries it (R198). -/
def execStatus (seq : Byte) (body : List Byte) (s : State) : Host.Outcome State Fault Refusal :=
  .next (s.request { code := 0x02, length := some 0, modes := everyMode, whileBusy := true } seq body fun w =>
    Work.done { w with link := { w.link with lost := false } } (.summary w.summary))

/-- The table of its byte, in the order of R196. -/
def tableOf : Nat → Option TableName
  | 0 => some .coils
  | 1 => some .slots
  | 2 => some .moves
  | 3 => some .cranes
  | 4 => some .trucks
  | 5 => some .fences
  | _ => none

/-- The record count of a table (R196). -/
def State.recordCount (s : State) : TableName → Nat
  | .coils => 1024
  | .slots => s.layout.committed.slots.length + 2
  | .moves => 64
  | .cranes => 4
  | .trucks => 2
  | .fences => 4

/-- CURSOR_SET (R196). -/
def execCursorSet (seq : Byte) (body : List Byte) (s : State) : Host.Outcome State Fault Refusal :=
  .next (s.request { code := 0x03, length := some 3, modes := everyMode } seq body fun w =>
    match tableOf (u8At body 1) with
    | none => w.refuse .badField 1
    | some t =>
      if u16At body 2 < w.recordCount t then
        Work.done { w with link := { w.link with cursor := (t, u16At body 2) } } (.count (w.recordCount t))
      else w.refuse .badField 2)

/-- The SLOTS record of an index: the slots in the order of R35, then saddle IA and saddle IB. -/
def State.slotRecord (s : State) (i : Nat) : Option RecordBody :=
  let l := s.layout.committed.slots
  match l[i]? with
  | some a => some (.slot a (s.slot a) (s.isProtected a.row))
  | none =>
    if i = l.length then some (.saddle .ia s.yard.ia) else if i = l.length + 1 then some (.saddle .ib s.yard.ib) else none

/-- The CRANES record of a crane (R80, R81). -/
def State.craneRecord (s : State) (c : CraneId) : RecordBody :=
  let h := s.weighing.cranes.get c
  .crane (s.cranes.get c) (s.runway.claims.get c) (s.runway.permit.get c) ((s.hookCoil c).map (·.id)) h.last
    (h.session.map (·.stage))

/-- The content of a record, `none` for the empty marker (R197). -/
def State.recordAt (s : State) : TableName → Nat → Option RecordBody
  | .coils, i => (s.coils.get? i).map .coil
  | .slots, i => s.slotRecord i
  | .moves, i => (s.moves.table.get? i).map .move
  | .cranes, i => (craneOf (i + 1)).map s.craneRecord
  | .trucks, i => (bayOf (i + 1)).map fun b => .truck (s.bays.get b) (s.weighing.bays.get b)
  | .fences, i => (s.runway.fences.get? (i + 1)).map .fence

/-- The next `n` records from a cursor, going on at index 0 after the last. -/
def State.recordsFrom (s : State) (t : TableName) (i n : Nat) : List Record :=
  (List.range n).map fun k => let j := (i + k) % s.recordCount t; ⟨t, j, s.recordAt t j⟩

/-- The greatest prefix whose bytes fit in a room, at least one member (R195, R197). -/
def fitting {α : Type} (size : α → Nat) : Nat → List α → List α
  | _, [] => []
  | room, x :: rest =>
    let rec go : Nat → List α → List α
      | _, [] => []
      | room, y :: rest => if size y ≤ room then y :: go (room - size y) rest else []
    x :: go (room - size x) rest

/-- The room for records or notices in a reply body of 250 bytes, after the status byte and the count. -/
def replyRoom : Nat := 248

/-- READ_NEXT (R197). -/
def execReadNext (seq : Byte) (body : List Byte) (s : State) : Host.Outcome State Fault Refusal :=
  .next (s.request { code := 0x04, length := some 1, modes := everyMode } seq body fun w =>
    w.fields (firstBad [(inRange 1 8 (u8At body 1), 1)]) fun w =>
      let t := w.link.cursor.1
      let l := fitting (fun r => r.bytes.length) replyRoom (w.recordsFrom t w.link.cursor.2 (u8At body 1))
      Work.done { w with link := { w.link with cursor := (t, (w.link.cursor.2 + l.length) % w.recordCount t) } } (.records l))

/-- A fetch that takes notices from the head of the queue (R195). -/
def Work.fetchNew (w : Work) (seq : Byte) (count : Nat) : Handled :=
  let l := fitting (fun n => n.bytes.length) replyRoom (w.link.notices.take count)
  Work.done { w with link := { w.link with notices := w.link.notices.drop l.length, fetch := some (seq, l) } } (.notices l)

/-- A fetch answered from the fetch record when its sequence byte is the record's (R195). -/
def Work.fetch (w : Work) (seq : Byte) (count : Nat) : Handled :=
  match w.link.fetch with
  | some f => if f.1 = seq then w.done (.notices f.2) else w.fetchNew seq count
  | none => w.fetchNew seq count

/-- NOTICE_FETCH (R195). -/
def execNoticeFetch (seq : Byte) (body : List Byte) (s : State) : Host.Outcome State Fault Refusal :=
  .next (s.request { code := 0x05, length := some 1, modes := everyMode, whileBusy := true } seq body fun w =>
    w.fields (firstBad [(inRange 1 8 (u8At body 1), 1)]) fun w => w.fetch seq (u8At body 1))

end Sys2Proof.Machine
end

