-- ==== Sys2Proof/Machine/Supply.lean ====
section
/-! DEFINITION. The supply and the nonvolatile store: power-on (R16, R205), the end of the store check, the end of a store write (R13 to R15)
and the loss of the supply (R14). -/

namespace Sys2Proof.Machine

/-- A crane's record at the end of a store write (R15 (2), R81). -/
def CraneRec.takeUp (hasEntry : Bool) (r : CraneRec) : CraneRec :=
  let r := { r with service := .out, order := none, current := none, park := [], putDownFirst := none }
  if hasEntry then r
  else { r with timer := false, fresh := false, late := false, last := none, claimLatch := false, drive := 0, fault := none }

/-- The weighing state of a bay at the end of a store write (R79). -/
def BayScale.takeUp (hasEntry : Bool) (x : BayScale) : BayScale :=
  { x with session := none, warm := 0, state := if hasEntry then .warmup else .none, trim := 0 }

/-- Every block takes up the committed image (R15, R79, R108, R196). -/
def Work.takeUp (w : Work) : Work :=
  let img := w.layout.committed
  { w with
    yard := {}
    cranes := w.cranes.map fun c r => r.takeUp (img.cranes.get c).isSome
    weighing :=
      { cranes := w.weighing.cranes.map fun _ h => { h with session := none, overload := false, signal := false, unexpected := false }
        bays := w.weighing.bays.map fun b x => x.takeUp (img.bays.get b).isSome }
    runway := { w.runway with claims := .all none, waits := .all none, yields := .all none, fences := [] }
    link := { w.link with cursor := if w.link.cursor.1 = .slots then (.slots, 0) else w.link.cursor } }

/-- The values a state takes when the supply goes or comes: the nonvolatile store, the levels of the bay lines, the waiting commands and
the count of events stay, everything else is as after power-on (R34, R205). -/
def State.unpowered (s : State) (p : Power) : State :=
  { power := p
    layout := { nv := s.layout.nv }
    bays := s.bays.map fun _ b => { inPosition := b.inPosition, safe := b.safe }
    eventNo := s.eventNo
    pending := s.pending }

/-- The supply comes on: every block takes its power-on values, and the check of the store begins (R205). -/
def execPowerOn (s : State) : Host.Outcome State Fault Refusal :=
  .next ((s.unpowered .checking).event fun w => w)

/-- The supply is lost: working memory is lost, and a store write under way is left incomplete (0.1, R14). -/
def execLossOfSupply (s : State) : Host.Outcome State Fault Refusal :=
  .next ((s.unpowered .off).event fun w => w)

/-- The store is valid: its integrity check passes and its last write completed (R16). -/
def NvStore.usable (nv : NvStore) (intact : Bool) : Bool := intact && nv.complete

/-- The end of the store check (R16, R205). -/
def Work.endCheck (w : Work) (intact : Bool) : Work :=
  let ok := w.layout.nv.usable intact
  let img := if ok then w.layout.nv.image else {}
  let w : Work :=
    { w with
      power := .on
      layout := { w.layout with committed := img, edition := if ok then w.layout.nv.edition else 0, valid := ok, working := some img }
      coordFault := none
      link := {} }
  (w.takeUp).notice (.modeChange none .setup .powerOn)

/-- The store check ends; without a check under way nothing happens (notes/assumptions/20.md). -/
def execStoreCheckEnd (intact : Bool) (s : State) : Host.Outcome State Fault Refusal :=
  .next (s.event fun w => if w.power = .checking then w.endCheck intact else w)

/-- The Layout Store at the end of a store write of an image (R13, R14, R199). -/
def Layout.endWrite (l : Layout) (img : Image) (ok inSetup : Bool) : Layout :=
  let edition := nextCount 65535 l.edition
  { l with
    writing := none
    committed := if ok then img else {}
    edition := if ok then edition else 0
    valid := ok
    working := if inSetup then l.working else none
    nv := if ok then ⟨img, edition, true⟩ else { l.nv with complete := false } }

/-- A store write of an image ends (R13 to R15). -/
def Work.endWrite (w : Work) (img : Image) (ok : Bool) : Work :=
  let w : Work := { w with layout := w.layout.endWrite img ok (decide (w.link.mode = .setup)) }
  (w.notice (.storeDone ok)).takeUp

/-- A store write ends; without a write under way nothing happens (notes/assumptions/20.md). -/
def execStoreWriteEnd (ok : Bool) (s : State) : Host.Outcome State Fault Refusal :=
  .next (s.event fun w => match w.layout.writing with | some img => w.endWrite img ok | none => w)

end Sys2Proof.Machine
end

