-- ==== Sys2Proof/Machine/Trucks.lean ====
section
/-! DEFINITION. The truck telegrams: TRUCK_CHECKIN (R150), LOAD_PLAN (R156 to R159), TRUCK_RELEASE (R171), TRUCK_ABORT (R172, R173) and
SCALE_ZERO (R77). -/

namespace Sys2Proof.Machine

/-- The bay that a one-byte body names, or a refusal (R77, R171, R172). -/
def Work.withBay (w : Work) (body : List Byte) (h : Work → BayId → Handled) : Handled :=
  match bayOf (u8At body 1) with
  | some b => h w b
  | none => w.refuse .badField 1

/-- The bay has an entry and a visit, else 22 BAY_STATE with detail 1 or 2. -/
def Work.withVisit (w : Work) (b : BayId) (h : Work → Visit → Handled) : Handled :=
  if (w.bayEntry b).isNone then w.refuse .bayState 1
  else
    match w.visitOf b with
    | none => w.refuse .bayState 2
    | some v => h w v

/-! ### Check-in -/

/-- The state checks and effects of TRUCK_CHECKIN (R150). -/
def Work.checkIn (w : Work) (b : BayId) (v : Visit) : Handled :=
  if (w.bayEntry b).isNone then w.refuse .bayState 1
  else if (w.visitOf b).isSome then w.refuse .bayState 2
  else
    let w := ((w.modBay b fun x => { x with visit := some v }).abandonZero b).setVisitState b .securing .checkin
    (if (w.bays.get b).secured then w.baySecured b else w).done .plain

/-- TRUCK_CHECKIN (R150). -/
def execTruckCheckin (seq : Byte) (body : List Byte) (s : State) : Host.Outcome State Fault Refusal :=
  .next (s.request { code := 0x70, length := some 54, modes := [.run] } seq body fun w =>
    w.fields (checkinBad body) fun w => w.withBay body fun w b => w.checkIn b (visitAt body))

/-! ### Load plans (R156 to R159) -/

/-- One entry of a plan under trial: its index from 1, its coil, its cradle (0 for AUTO), its move's number, its dig-outs with their numbers,
and the moves it waits for besides them. -/
structure PlanItem where
  index : Nat
  coil : Coil
  cradle : Nat
  number : Nat
  digs : List (Dig × Nat)
  waits : List Nat
deriving DecidableEq, Repr

/-- The checks of R157 for one entry: the coil, or the refusal. -/
def State.planCoil (s : State) (i : Nat) (e : MillId × Nat) : Except (Reason × Byte) Coil :=
  let d := BitVec.ofNat 8 i
  match s.findCoil e.1 with
  | none => .error (.noCoil, d)
  | some k =>
    match k.loc with
    | .slot _ =>
      if k.active.isSome || k.visit.isSome then .error (.coilBusy, d)
      else if k.isHot then .error (.coilHot, d)
      else
        match s.blockedBy k.loc with
        | some p => .error (.coilBlocked, BitVec.ofNat 8 (16 * i + p))
        | none => .ok k
    | _ => .error (.coilBusy, d)

/-- The checks of R157, entry by entry. -/
def State.planCoils (s : State) : Nat → List (MillId × Nat) → Except (Reason × Byte) (List Coil)
  | _, [] => .ok []
  | i, e :: rest =>
    match s.planCoil i e with
    | .error r => .error r
    | .ok k =>
      match s.planCoils (i + 1) rest with
      | .error r => .error r
      | .ok l => .ok (k :: l)

/-- The dig-outs of the entries of a plan: for each its own, a covering coil that the plan names or that an earlier entry digs out being
left to that part of the request (R47, R158). -/
def State.planDigs (s : State) (named : List MillId) : List MillId → List Coil → List (List Dig)
  | _, [] => []
  | dug, k :: rest =>
    let l := s.digsOf (fun id => if named.contains id || dug.contains id then some 0 else none) k.loc
    l :: s.planDigs named (dug ++ l.map (·.2)) rest

/-- The numbers of a plan's moves dealt out: for each entry its dig-outs' and then its own (R129, R159). -/
def dealNumbers : List Nat → List (List Dig) → List (List (Dig × Nat) × Nat)
  | _, [] => []
  | nums, digs :: rest =>
    (digs.zip nums, (nums.drop digs.length).headD 0) :: dealNumbers (nums.drop (digs.length + 1)) rest

/-- The move that a plan gives a coil: the TO_TRUCK move of its entry, or its dig-out. -/
def planMoveOf (items : List (Coil × List (Dig × Nat) × Nat)) (id : MillId) : Option Nat :=
  match items.find? fun x => decide (x.1.id = id) with
  | some x => some x.2.2
  | none => ((items.flatMap fun x => x.2.1).find? fun d => decide (d.1.2 = id)).map (·.2)

/-- The entries of a plan with their numbers, dig-outs and waits. -/
def State.planItems (s : State) (entries : List (MillId × Nat)) (coils : List Coil) : List PlanItem :=
  let digs := s.planDigs (coils.map (·.id)) [] coils
  let dealt := dealNumbers (s.nextNumbers (coils.length + (digs.map (·.length)).sum)) digs
  let items := coils.zip dealt
  ((items.zip entries).zipIdx 1).map fun x =>
    let k := x.1.1.1
    let own := x.1.1.2.1
    { index := x.2, coil := k, cradle := x.1.2.2, number := x.1.1.2.2, digs := own
      waits := (s.waitsOf (planMoveOf items) k.loc ++
          (s.digsOf (planMoveOf items) k.loc).filterMap fun d => planMoveOf items d.2).filter
        fun n => !(own.map (·.2)).contains n }

/-- Step (2) of the trial: the dig-out sources, entry by entry. -/
def Work.planTakeDigs (w : Work) : List PlanItem → Except (Reason × Byte) Work
  | [] => .ok w
  | x :: rest =>
    match w.takeDigs x.digs with
    | .error e => .error (e.1, BitVec.ofNat 8 x.index)
    | .ok w => w.planTakeDigs rest

/-- Step (3) of the trial: the sources of some entries. -/
def Work.planTakeSources (w : Work) : List PlanItem → Except (Reason × Byte) Work
  | [] => .ok w
  | x :: rest =>
    match w.takePlace x.coil.loc x.number with
    | .error e => .error (e.1, BitVec.ofNat 8 x.index)
    | .ok w => w.planTakeSources rest

/-- A coil lies in a top slot. -/
def Coil.onTop (k : Coil) : Bool := match k.loc with | .slot a => decide (a.tier = .top) | _ => false

/-- Step (4) of the trial: the dig-out destinations, entry by entry. -/
def Work.planPlaceDigs (w : Work) (leaveOut : List SlotAddr) :
    List PlanItem → Except (Reason × Byte) (Work × List (List SlotAddr))
  | [] => .ok (w, [])
  | x :: rest =>
    match w.placeDigs leaveOut x.digs with
    | .error top => .error (.coilBlocked, BitVec.ofNat 8 (16 * x.index + top.pos))
    | .ok r =>
      match r.1.planPlaceDigs leaveOut rest with
      | .error e => .error e
      | .ok q => .ok (q.1, r.2 :: q.2)

/-- The TO_TRUCK move of an entry, its cradle still to be chosen (R159 (1)); its own dig-outs stand first in its waits-for list (DESIGN CHOICE,
notes/assumptions/46.md). -/
def planMove (clock priority : Nat) (x : PlanItem) : Move :=
  { number := x.number, kind := .toTruck, origin := .plan, coil := some x.coil.id, source := some x.coil.loc, dest := .auto
    priority := priority, waits := x.digs.map (·.2) ++ x.waits, created := clock }

/-- The cradle of one entry (R158 (1), (2)). -/
def State.planCradle (s : State) (v : Visit) (x : PlanItem) : Except (Reason × Byte) Nat :=
  let d := BitVec.ofNat 8 x.index
  if x.cradle = 0 then
    match s.chooseCradle v x.coil with
    | .chosen k => .ok k
    | .noFit => .error (.planFit, d)
    | .overload => .error (.planOverload, d)
  else
    match v.cradle x.cradle with
    | none => .error (.planFit, d)
    | some k =>
      if !(decide (k.state = .free) && k.fits x.coil) then .error (.planFit, d)
      else if !s.axlePasses v k x.coil then .error (.planOverload, d)
      else .ok x.cradle

/-- Step (5) of the trial: the cradles, entry by entry, each counted for the entries after it. -/
def Work.planCradles (w : Work) (b : BayId) : List PlanItem → Except (Reason × Byte) (Work × List Nat)
  | [] => .ok (w, [])
  | x :: rest =>
    match w.visitOf b with
    | none => .error (.planFit, BitVec.ofNat 8 x.index)
    | some v =>
      match w.planCradle v x with
      | .error e => .error e
      | .ok k =>
        match ((w.setCradle b k (.reserved x.number)).modMove x.number fun m => { m with dest := .cradle b k }).planCradles b rest with
        | .error e => .error e
        | .ok q => .ok (q.1, k :: q.2)

/-- The whole trial of a plan with its moves made: the event so far, the cradles, or the refusal (R158, R159). -/
def Work.planTrial (w : Work) (b : BayId) (priority : Nat) (items : List PlanItem) : Except (Reason × Byte) (Work × List Nat) :=
  match w.planTakeDigs items with
  | .error e => .error e
  | .ok w =>
    match w.planTakeSources ((items.filter (·.coil.onTop)) ++ items.filter (!·.coil.onTop)) with
    | .error e => .error e
    | .ok w =>
      match w.planPlaceDigs (items.flatMap fun x => w.coversOf x.coil.loc) items with
      | .error e => .error e
      | .ok (w, places) =>
        let moves := (items.zip places).flatMap fun x =>
          digMoves w.clock priority x.1.number (x.1.digs.zip x.2) ++ [planMove w.clock priority x.1]
        (w.createMoves moves).planCradles b items

/-- A plan whose trial passes is made (R159). -/
def Work.acceptPlan (w : Work) (b : BayId) (priority : Nat) (items : List PlanItem) (cradles : List Nat) : Handled :=
  let entries := (items.zip cradles).map fun x => ({ coil := x.1.coil.id, cradle := x.2, move := x.1.number } : Entry)
  let w := items.foldl (fun w x => w.modCoil x.coil.id fun k => { k with visit := some b }) w
  let w := w.modVisit b fun v => { v with plan := entries, priority := some priority }
  let w := w.setVisitState b .loading .plan
  let w := w.moveNotices (items.flatMap fun x => x.digs.map (·.2) ++ [x.number])
  (w.oweGrant b).done (.planned ((items.zip cradles).map fun x => (x.1.number, x.2)) (sortNums (items.flatMap fun x => x.digs.map (·.2))))

/-- The checks of LOAD_PLAN after those of its fields (R156 to R158). -/
def Work.loadPlan (w : Work) (b : BayId) (priority : Nat) (entries : List (MillId × Nat)) : Handled :=
  w.withVisit b fun w v =>
    if v.state ≠ .ready then w.refuse .bayState 3
    else
      match entries.findIdx? fun e => decide (v.cradles.length < e.2) with
      | some i => w.refuse .badField (i + 1)
      | none =>
        match w.planCoils 1 entries with
        | .error e => w.refused e
        | .ok coils =>
          let items := w.planItems entries coils
          if !w.room (items.length + (items.map (·.digs.length)).sum) then w.refuse .tableFull 0
          else
            match w.planTrial b priority items with
            | .error e => w.refused e
            | .ok r => r.1.acceptPlan b priority items r.2

/-- LOAD_PLAN (R156 to R159). -/
def execLoadPlan (seq : Byte) (body : List Byte) (s : State) : Host.Outcome State Fault Refusal :=
  .next (s.request { code := 0x71, length := none, modes := [.run] } seq body fun w =>
    match planBad body with
    | some i => w.refuse .badField i
    | none => w.withBay body fun w b => w.loadPlan b ((priorityAt body 2).getD 5) (planAt body))

/-! ### Release (R32, R171) -/

/-- One cradle at a release: its coil leaves the Coil Table with its notice (R32). -/
def Work.dispatchCradle (w : Work) (b : BayId) (x : Cradle × Nat) : Work :=
  match x.1.state with
  | .loaded id _ =>
    let w := match w.findCoil id with
      | some k => (w.notice (.coilDispatched id b x.2 k.declared k.measured)).dropCoil id
      | none => w
    w.setCradle b x.2 .free
  | _ => w

/-- The state check and effects of TRUCK_RELEASE (R171). -/
def Work.release (w : Work) (b : BayId) : Handled :=
  w.withVisit b fun w v =>
    if v.state = .verified ∨ v.state = .discrepancy then
      (((v.cradles.zipIdx 1).foldl (fun w x => w.dispatchCradle b x) w).depart b .release).done .plain
    else w.refuse .bayState 3

/-- TRUCK_RELEASE (R171). -/
def execTruckRelease (seq : Byte) (body : List Byte) (s : State) : Host.Outcome State Fault Refusal :=
  .next (s.request { code := 0x72, length := some 1, modes := [.run, .quiesced] } seq body fun w => w.withBay body Work.release)

/-! ### Abort (R172, R173) -/

/-- The LOADED cradles of a visit with their coils, ascending. -/
def Visit.loadedCradles (v : Visit) : List (Nat × MillId) :=
  (v.cradles.zipIdx 1).filterMap fun x => match x.1.state with | .loaded id _ => some (x.2, id) | _ => none

/-- The UNLOAD moves of an abort under trial: for each LOADED cradle a yard slot found and reserved in, or the cradle without one
(R172 check 8). -/
def Work.planUnloads (w : Work) (b : BayId) : List ((Nat × MillId) × Nat) → Except Nat (Work × List Move)
  | [] => .ok (w, [])
  | ((k, id), n) :: rest =>
    match w.findCoil id with
    | none => .error k
    | some c =>
      match w.takeTarget c n (.auto none) with
      | .error _ => .error k
      | .ok r =>
        match r.1.planUnloads b rest with
        | .error e => .error e
        | .ok q =>
          .ok (q.1, { number := n, kind := .unload, origin := .abort, coil := some id, source := some (.cradle b k)
                      dest := .slot r.2, priority := 4, created := w.clock } :: q.2)

/-- The UNLOAD moves of an abort made (R173 (4)). -/
def Work.acceptUnloads (w : Work) (b : BayId) (l : List ((Nat × MillId) × Nat)) (moves : List Move) : Handled :=
  let w := l.foldl (fun w x => w.setCradle b x.1.1 (.loaded x.1.2 (some x.2))) (w.createMoves moves)
  let w := (w.setVisitState b .unloading .abort).moveNotices (l.map (·.2))
  (w.oweGrant b).done (.unloads (l.map (·.2)))

/-- The abort with its cancellations in place (R172 checks 7 and 8, R173); `w0` is the event before them, to which a refusal returns. The
Dispatcher runs at every abort that is taken, as R173 says, one that creates no UNLOAD and frees no crane too: the list of R135 is read as not
shutting it out (DEDUCED, notes/assumptions/44.md). -/
def Work.abortTrial (w w0 : Work) (b : BayId) (v : Visit) : Handled :=
  let l := v.loadedCradles
  if !w.room l.length then w0.refuse .tableFull 0
  else if l.isEmpty then Work.done { w.depart b .abort with dispatch := true } (.unloads [])
  else
    let numbered := l.zip (w.nextNumbers l.length)
    match w.planUnloads b numbered with
    | .error k => w0.refuse .noPlace k
    | .ok r => r.1.acceptUnloads b numbered r.2

/-- The state checks of TRUCK_ABORT (R172) and its effects (R173). -/
def Work.abort (w : Work) (b : BayId) : Handled :=
  w.withVisit b fun w v =>
    let pending := (w.pendingLoads b).filterMap w.findMove
    if v.state = .unloading ∨ v.state = .departing then w.refuse .bayState 3
    else if pending.any w.coilOnHook then w.refuse .bayState 4
    else if (w.bays.get b).lock.isSome then w.refuse .bayState 5
    else if pending.any fun m => w.unanswered m false then w.refuse .bayState 6
    else Work.abortTrial (((w.pendingLoads b).foldl (fun w n => w.cancelMove n) w).discardBay b) w b v

/-- TRUCK_ABORT (R172, R173). -/
def execTruckAbort (seq : Byte) (body : List Byte) (s : State) : Host.Outcome State Fault Refusal :=
  .next (s.request { code := 0x73, length := some 1, modes := [.run] } seq body fun w => w.withBay body Work.abort)

/-! ### Scale zero (R77) -/

/-- The state checks and effects of SCALE_ZERO (R77). -/
def Work.scaleZero (w : Work) (b : BayId) : Handled :=
  if (w.bayEntry b).isNone then w.refuse .bayState 1
  else if (w.visitOf b).isSome then w.refuse .bayState 2
  else if (w.bays.get b).inPosition then w.refuse .bayState 3
  else if (w.weighing.bays.get b).session.isSome then w.refuse .scaleState 1
  else if (w.weighing.bays.get b).state ≠ .ready then w.refuse .scaleState 2
  else (w.startBay b .zero none, .accepted)

/-- SCALE_ZERO (R77). -/
def execScaleZero (seq : Byte) (body : List Byte) (s : State) : Host.Outcome State Fault Refusal :=
  .next (s.request { code := 0x74, length := some 1, modes := notStopped } seq body fun w => w.withBay body Work.scaleZero)

end Sys2Proof.Machine
end

