-- ==== Sys2Proof/Machine/Dispatch.lean ====
section
/-! DEFINITION. The meaning of each command, one arm each. -/

namespace Sys2Proof.Machine

def exec (i : Instr) (s : State) : Host.Outcome State Fault Refusal :=
  match i with
  | .powerOn => Sys2Proof.Machine.execPowerOn s
  | .storeCheckEnd intact => Sys2Proof.Machine.execStoreCheckEnd intact s
  | .identify seq body => Sys2Proof.Machine.execIdentify seq body s
  | .status seq body => Sys2Proof.Machine.execStatus seq body s
  | .cursorSet seq body => Sys2Proof.Machine.execCursorSet seq body s
  | .readNext seq body => Sys2Proof.Machine.execReadNext seq body s
  | .noticeFetch seq body => Sys2Proof.Machine.execNoticeFetch seq body s
  | .layoutBegin seq body => Sys2Proof.Machine.execLayoutBegin seq body s
  | .layoutRunway seq body => Sys2Proof.Machine.execLayoutRunway seq body s
  | .layoutCrane seq body => Sys2Proof.Machine.execLayoutCrane seq body s
  | .layoutRow seq body => Sys2Proof.Machine.execLayoutRow seq body s
  | .layoutIntake seq body => Sys2Proof.Machine.execLayoutIntake seq body s
  | .layoutBay seq body => Sys2Proof.Machine.execLayoutBay seq body s
  | .layoutTuning seq body => Sys2Proof.Machine.execLayoutTuning seq body s
  | .layoutCommit seq body => Sys2Proof.Machine.execLayoutCommit seq body s
  | .storeWriteEnd ok => Sys2Proof.Machine.execStoreWriteEnd ok s
  | .runStart seq body => Sys2Proof.Machine.execRunStart seq body s
  | .quiesce seq body => Sys2Proof.Machine.execQuiesce seq body s
  | .enterSetup seq body => Sys2Proof.Machine.execEnterSetup seq body s
  | .restart seq body => Sys2Proof.Machine.execRestart seq body s
  | .coilRegister seq body => Sys2Proof.Machine.execCoilRegister seq body s
  | .coilRemove seq body => Sys2Proof.Machine.execCoilRemove seq body s
  | .coilAnnounce seq body => Sys2Proof.Machine.execCoilAnnounce seq body s
  | .moveRequest seq body => Sys2Proof.Machine.execMoveRequest seq body s
  | .moveHold seq body => Sys2Proof.Machine.execMoveHold seq body s
  | .moveResume seq body => Sys2Proof.Machine.execMoveResume seq body s
  | .moveCancel seq body => Sys2Proof.Machine.execMoveCancel seq body s
  | .moveRedirect seq body => Sys2Proof.Machine.execMoveRedirect seq body s
  | .rowProtect seq body => Sys2Proof.Machine.execRowProtect seq body s
  | .fenceAdd seq body => Sys2Proof.Machine.execFenceAdd seq body s
  | .fenceRemove seq body => Sys2Proof.Machine.execFenceRemove seq body s
  | .craneReinstate seq body => Sys2Proof.Machine.execCraneReinstate seq body s
  | .faultClear seq body => Sys2Proof.Machine.execFaultClear seq body s
  | .truckCheckin seq body => Sys2Proof.Machine.execTruckCheckin seq body s
  | .loadPlan seq body => Sys2Proof.Machine.execLoadPlan seq body s
  | .truckRelease seq body => Sys2Proof.Machine.execTruckRelease seq body s
  | .truckAbort seq body => Sys2Proof.Machine.execTruckAbort seq body s
  | .scaleZero seq body => Sys2Proof.Machine.execScaleZero seq body s
  | .unknownCodeRequest code seq body => Sys2Proof.Machine.execUnknownCodeRequest code seq body s
  | .frameBrokenOff got => Sys2Proof.Machine.execFrameBrokenOff got s
  | .frameBadCrc got => Sys2Proof.Machine.execFrameBadCrc got s
  | .frameLengthOver length => Sys2Proof.Machine.execFrameLengthOver length s
  | .requestDiscardedUnhandled code seq body => Sys2Proof.Machine.execRequestDiscardedUnhandled code seq body s
  | .replySent => Sys2Proof.Machine.execReplySent s
  | .yardClockSecond => Sys2Proof.Machine.execYardClockSecond s
  | .minuteTick => Sys2Proof.Machine.execMinuteTick s
  | .craneStatus c st => Sys2Proof.Machine.execCraneStatus c st s
  | .craneStatusDiscarded c got => Sys2Proof.Machine.execCraneStatusDiscarded c got s
  | .craneFrameBrokenOff c => Sys2Proof.Machine.execCraneFrameBrokenOff c s
  | .reportLate c => Sys2Proof.Machine.execReportLate c s
  | .reportLost c => Sys2Proof.Machine.execReportLost c s
  | .claimWaitExpiry c => Sys2Proof.Machine.execClaimWaitExpiry c s
  | .bayScan b c1 c2 c3 c4 => Sys2Proof.Machine.execBayScan b c1 c2 c3 c4 s
  | .settleExpiry o => Sys2Proof.Machine.execSettleExpiry o s
  | .stabilityTimeout o => Sys2Proof.Machine.execStabilityTimeout o s
  | .bayLineChange b l asserted => Sys2Proof.Machine.execBayLineChange b l asserted s
  | .lossOfSupply => Sys2Proof.Machine.execLossOfSupply s

end Sys2Proof.Machine
end

