-- ==== Sys2Proof/Safety.lean ====
section
/-! DEFINITION. What the statements speak of: the outputs as the rules give them, the invariants of the coordinator, the table of requests of
section 10.3, and the states in which nothing is left for the end of an event to start. -/

namespace Sys2Proof.Machine

/-! ### Outputs (R127, R206) -/

/-- The last reported position of the crane lies within its claim widened by the position tolerance (R127 (5)); never so for a crane with no
claim, no last status or no entry. -/
def State.standsInClaim (s : State) (c : CraneId) : Prop :=
  ∃ (e : CraneEntry) (st : Status) (time : Nat) (k : Claim),
    s.layout.committed.cranes.get c = some e ∧ (s.cranes.get c).last = some (st, time) ∧ s.runway.claims.get c = some k
      ∧ (st.x : Int) - e.h ≥ k.lo - s.layout.committed.tolerance ∧ (st.x : Int) + e.h ≤ k.hi + s.layout.committed.tolerance

/-- The five conditions of R127, with the supply on and the start-up check ended. -/
def State.permitRule (s : State) (c : CraneId) : Prop :=
  s.power = .on ∧ (s.link.mode = .run ∨ s.link.mode = .quiesced) ∧ (s.cranes.get c).service ≠ .out ∧ (s.cranes.get c).fault = none
    ∧ s.runway.frozen = false ∧ s.standsInClaim c

/-- Some fault part of a move, a crane or the runway is open. -/
def State.faultOpen (s : State) : Prop :=
  (∃ m ∈ s.moves.table.vals, m.fault.isSome = true) ∨ (∃ c, (s.cranes.get c).fault.isSome = true) ∨ s.runway.fault.isSome = true
    ∨ s.coordFault.isSome = true

/-- The RUN LED by the supply and the mode (R206). -/
def State.runLedRule (s : State) : Led :=
  match s.power, s.link.mode with
  | .off, _ => .off
  | .checking, _ => .on
  | .on, .run => .on
  | .on, .setup => .flashing
  | .on, .quiesced => .flashing
  | .on, .stopped => .off

/-- What R206 gives for the FAULT LED. -/
def State.faultLedRule (s : State) : Prop :=
  (s.power = .off → s.leds.fault = .off) ∧ (s.power = .checking → s.leds.fault = .on)
    ∧ (s.power = .on → s.link.mode = .stopped → s.leds.fault = .flashing)
    ∧ (s.power = .on → s.link.mode ≠ .stopped → s.faultOpen → s.leds.fault = .on)
    ∧ (s.power = .on → s.link.mode ≠ .stopped → ¬ s.faultOpen → s.leds.fault = .off)

/-- Every PERMIT output and both indicators are as the rules give them (R127, R206). -/
def State.outputsAgree (s : State) : Prop :=
  (∀ c, s.runway.permit.get c = true ↔ s.permitRule c) ∧ s.leds.run = s.runLedRule ∧ s.faultLedRule

/-! ### Invariants -/

/-- The tables in their canonical form and no queue over its room: the entries of the Coil Table and of the Move Table rise and lie in 0 to
1023 and 0 to 63, at most 32 notices and 4 replies are held (R17, R128, R191, R194). -/
def State.bounded (s : State) : Prop :=
  (s.coils.wf = true ∧ ∀ e ∈ s.coils, e.1 ≤ 1023) ∧ (s.moves.table.wf = true ∧ ∀ e ∈ s.moves.table, e.1 ≤ 63)
    ∧ s.link.notices.length ≤ 32 ∧ s.link.replies.length ≤ 4

/-- The fence numbers rise and lie in 1 to 4 (R108). -/
def State.fencesOrdered (s : State) : Prop := s.runway.fences.wf = true ∧ ∀ e ∈ s.runway.fences, 1 ≤ e.1 ∧ e.1 ≤ 4

/-- The row numbers of an image rise and lie in 1 to 40 (R4). -/
def Image.rowsOrdered (img : Image) : Prop := img.rows.wf = true ∧ ∀ e ∈ img.rows, 1 ≤ e.1 ∧ e.1 ≤ 40

/-- The rows of every image that the Layout Store holds are in order: the one last written, the committed one, the working one and the one
being written; and the fences are in order. -/
def State.ordered (s : State) : Prop :=
  s.layout.nv.image.rowsOrdered ∧ s.layout.committed.rowsOrdered ∧ (∀ img, s.layout.working = some img → img.rowsOrdered)
    ∧ (∀ img, s.layout.writing = some img → img.rowsOrdered) ∧ s.fencesOrdered

/-- The mode is STOPPED exactly while the coordinator has a fault part (R182, R204). -/
def State.stoppedByFault (s : State) : Prop := s.link.mode = .stopped ↔ s.coordFault.isSome = true

/-- The claims of two different cranes share no point. -/
def State.claimsDisjoint (s : State) : Prop :=
  ∀ c d k l, c ≠ d → s.runway.claims.get c = some k → s.runway.claims.get d = some l → k.hi < l.lo ∨ l.hi < k.lo

/-- No point lies in the claims of two cranes, and none in a claim and an ACTIVE fence (R110). -/
def State.claimsApart (s : State) : Prop :=
  ∀ (c : CraneId) (k : Claim) (x : Cm), s.runway.claims.get c = some k → k.lo ≤ x → x ≤ k.hi →
    (∀ d l, d ≠ c → s.runway.claims.get d = some l → ¬(l.lo ≤ x ∧ x ≤ l.hi))
      ∧ ∀ e ∈ s.runway.fences, e.2.state = .active → ¬((e.2.lo : Int) ≤ x ∧ x ≤ e.2.hi)

/-! ### The image checks of R12 -/

/-- The largest half-width among the crane entries is `h` (0 when there is none). -/
def Image.widest (img : Image) (h : Nat) : Prop :=
  (∀ c e, img.cranes.get c = some e → e.h ≤ h) ∧ ((∃ c e, img.cranes.get c = some e ∧ e.h = h) ∨ (h = 0 ∧ ∀ c, img.cranes.get c = none))

/-- A position lies in the working span of an image with a runway part. -/
def Image.spanHolds (img : Image) (x : Nat) : Prop :=
  ∃ z h, img.size = some z ∧ img.widest h ∧ h + img.margin ≤ x ∧ (x : Int) ≤ (z.length : Int) - h - img.margin

/-- A trolley position lies in 0 to the trolley range of an image with a runway part. -/
def Image.trolleyHolds (img : Image) (y : Nat) : Prop := ∃ z, img.size = some z ∧ y ≤ z.range

/-- The check of a detail code fails, by the table of R12. -/
def Image.failsCheck (img : Image) (code : Nat) : Prop :=
  (code = 1 ∧ img.size = none) ∨ (code = 2 ∧ ∀ c, img.cranes.get c = none)
    ∨ (code = 3 ∧ ∃ c d, craneNum c < craneNum d ∧ img.cranes.get c = none ∧ img.cranes.get d ≠ none)
    ∨ (code = 4 ∧ img.intake = none) ∨ (code = 5 ∧ img.rows = [])
    ∨ (∃ i, img.intake = some i ∧ ((code = 10 ∧ ¬ img.spanHolds i.x) ∨ (code = 11 ∧ ¬ img.trolleyHolds i.yA)
        ∨ (code = 12 ∧ ¬ img.trolleyHolds i.yB) ∨ (code = 13 ∧ i.yA = i.yB)))
    ∨ (∃ b e, img.bays.get b = some e ∧ ((code = 20 + bayNum b ∧ ¬(img.spanHolds e.bx0 ∧ img.spanHolds e.bx1))
        ∨ (code = 22 + bayNum b ∧ ¬ img.trolleyHolds e.yt)))
    ∨ (code = 25 ∧ ∃ e f, img.bays.b1 = some e ∧ img.bays.b2 = some f ∧ e.bx0 ≤ f.bx1 ∧ f.bx0 ≤ e.bx1)
    ∨ (∃ n e, img.rows.get? n = some e ∧ ((code = 40 + n ∧ ¬ img.spanHolds e.x)
        ∨ (code = 80 + n ∧ ¬ img.trolleyHolds (e.y0 + (e.b - 1) * e.pitch))
        ∨ (code = 120 + n ∧ ∃ m f, m < n ∧ img.rows.get? m = some f ∧ f.x = e.x)))

/-! ### Quiet states -/

/-- No request waits and no bay has a waiting order. -/
def State.noWaits (s : State) : Prop := s.runway.waits = .all none ∧ ∀ b, (s.bays.get b).waiting = []

/-- Nothing is there for the end of an event to start: no waits, empty park stacks, an empty queue. -/
def State.quiet (s : State) : Prop := s.noWaits ∧ (∀ c, (s.cranes.get c).park = []) ∧ s.moves.queue = []

/-- No crane is IN service, no move is ACTIVE and nothing waits: a queued move finds no crane. -/
def State.craneless (s : State) : Prop :=
  s.noWaits ∧ (∀ c, (s.cranes.get c).service = .out) ∧ ∀ m ∈ s.moves.table.vals, m.state ≠ .active

/-! ### Requests -/

/-- A good request frame is handled: the supply is on, the start-up check has ended, and a reply can be held (R190, R191). -/
def State.listens (s : State) : Prop := s.power = .on ∧ s.link.replies.length < 4

/-- The Link Controller with a request taken: the receiver in HUNT and the reply held behind the others (R190, R191). -/
def Link.answer (l : Link) (code : Nat) (seq : Byte) (b : ReplyBody) : Link :=
  { l with rx := .hunt, replies := l.replies ++ [⟨BitVec.ofNat 8 (code + 128), seq, b⟩] }

/-- The state in which a command's event ends when it leaves only what `s` says: the event has its number, it has sent no order, and every
output is set again. -/
def State.after (s : State) : State := { s with eventNo := s.eventNo + 1, sent := [] }.refresh

/-- The same for an event that has sent orders. -/
def State.afterSending (s : State) (l : List SentOrder) : State := { s with eventNo := s.eventNo + 1, sent := l }.refresh

/-- The state with a notice queued at the present time (R194). -/
def State.noting (s : State) (b : NoticeBody) : State := { s with link := s.link.queueNotice s.clock b }

/-- The state with several notices queued in order. -/
def State.notingAll (s : State) (l : List NoticeBody) : State := l.foldl State.noting s

/-- The state with a request answered. -/
def State.answering (s : State) (code : Nat) (seq : Byte) (b : ReplyBody) : State := { s with link := s.link.answer code seq b }

/-- A request telegram as section 10.3 and R207 give it. -/
structure Telegram where
  code : Nat
  /-- the body lengths allowed -/
  lengths : List Nat
  modes : List Mode
  whileBusy : Bool
  seq : Byte
  body : List Byte
deriving DecidableEq, Repr

/-- The length that a 2 BAD_LENGTH refusal names: the one allowed, or 0 where the length varies (R192). -/
def Telegram.lengthDetail (t : Telegram) : Nat := match t.lengths with | [n] => n | _ => 0

/-- Every mode (10.3). -/
def anyMode : List Mode := [.setup, .run, .quiesced, .stopped]

/-- The request that a command is, by the tables of section 10.3 and R207; `none` for the commands that are no known request. -/
def telegramOf : Instr → Option Telegram
  | .identify q b => some ⟨0x01, [0], anyMode, true, q, b⟩
  | .status q b => some ⟨0x02, [0], anyMode, true, q, b⟩
  | .cursorSet q b => some ⟨0x03, [3], anyMode, false, q, b⟩
  | .readNext q b => some ⟨0x04, [1], anyMode, false, q, b⟩
  | .noticeFetch q b => some ⟨0x05, [1], anyMode, true, q, b⟩
  | .layoutBegin q b => some ⟨0x10, [1], [.setup], false, q, b⟩
  | .layoutRunway q b => some ⟨0x11, [10], [.setup], false, q, b⟩
  | .layoutCrane q b => some ⟨0x12, [22], [.setup], false, q, b⟩
  | .layoutRow q b => some ⟨0x13, [15], [.setup], false, q, b⟩
  | .layoutIntake q b => some ⟨0x14, [6], [.setup], false, q, b⟩
  | .layoutBay q b => some ⟨0x15, [42], [.setup], false, q, b⟩
  | .layoutTuning q b => some ⟨0x16, [13], [.setup], false, q, b⟩
  | .layoutCommit q b => some ⟨0x17, [0], [.setup], false, q, b⟩
  | .runStart q b => some ⟨0x20, [0], [.setup, .quiesced], false, q, b⟩
  | .quiesce q b => some ⟨0x21, [0], [.run], false, q, b⟩
  | .enterSetup q b => some ⟨0x22, [0], [.quiesced], false, q, b⟩
  | .restart q b => some ⟨0x23, [0], anyMode, false, q, b⟩
  | .coilRegister q b => some ⟨0x30, [23], [.setup, .quiesced], false, q, b⟩
  | .coilRemove q b => some ⟨0x31, [12], [.setup, .quiesced], false, q, b⟩
  | .coilAnnounce q b => some ⟨0x32, [22], [.run], false, q, b⟩
  | .moveRequest q b => some ⟨0x40, [19], [.run], false, q, b⟩
  | .moveHold q b => some ⟨0x41, [2], [.run, .quiesced], false, q, b⟩
  | .moveResume q b => some ⟨0x42, [2], [.run], false, q, b⟩
  | .moveCancel q b => some ⟨0x43, [2], [.run, .quiesced], false, q, b⟩
  | .moveRedirect q b => some ⟨0x44, [6], [.run, .quiesced], false, q, b⟩
  | .rowProtect q b => some ⟨0x50, [2], [.setup, .run, .quiesced], false, q, b⟩
  | .fenceAdd q b => some ⟨0x51, [4], [.setup, .run, .quiesced], false, q, b⟩
  | .fenceRemove q b => some ⟨0x52, [1], [.setup, .run, .quiesced], false, q, b⟩
  | .craneReinstate q b => some ⟨0x60, [1], [.run, .quiesced], false, q, b⟩
  | .faultClear q b => some ⟨0x61, [4], [.setup, .run, .quiesced], false, q, b⟩
  | .truckCheckin q b => some ⟨0x70, [54], [.run], false, q, b⟩
  | .loadPlan q b => some ⟨0x71, [16, 29, 42, 55], [.run], false, q, b⟩
  | .truckRelease q b => some ⟨0x72, [1], [.run, .quiesced], false, q, b⟩
  | .truckAbort q b => some ⟨0x73, [1], [.run], false, q, b⟩
  | .scaleZero q b => some ⟨0x74, [1], [.setup, .run, .quiesced], false, q, b⟩
  | .powerOn | .storeCheckEnd _ | .storeWriteEnd _ | .unknownCodeRequest _ _ _ | .frameBrokenOff _ | .frameBadCrc _
  | .frameLengthOver _ | .requestDiscardedUnhandled _ _ _ | .replySent | .yardClockSecond | .minuteTick | .craneStatus _ _
  | .craneStatusDiscarded _ _ | .craneFrameBrokenOff _ | .reportLate _ | .reportLost _ | .claimWaitExpiry _ | .bayScan _ _ _ _ _
  | .settleExpiry _ | .stabilityTimeout _ | .bayLineChange _ _ _ | .lossOfSupply => none

/-- A request passes checks 2 to 4 of R192 in a state: it is heard, its length is allowed, no store write stands against it, and its mode is
right. -/
def State.takes (s : State) (i : Instr) : Prop :=
  ∃ t, telegramOf i = some t ∧ s.listens ∧ t.body.length ∈ t.lengths ∧ (s.layout.writing = none ∨ t.whileBusy = true)
    ∧ s.link.mode ∈ t.modes

end Sys2Proof.Machine
end

