-- ==== Sys2Proof/Certificates/Slice0/Obligations.lean ====
section
/-! DEFINITION. The statements for the provers. -/

section

open Sys2Proof Sys2Proof.Machine

/-! ### The queue, the outputs, the invariants -/

/-- The command at the front of the queue is carried out on the state with the rest of the queue; with nothing waiting the coordinator idles
(the model's own choice, notes/assumptions/1.md). -/
def Obligations.StepRunsFrontCommand : Prop :=
  (∀ (c : Instr) (rest : List Instr) (s : State), step { s with pending := c :: rest } = exec c { s with pending := rest })
    ∧ ∀ s : State, s.pending = [] → step s = .next s

/-- Every step leaves every PERMIT output exactly as the five conditions of R127 give it and both LEDs as R206 gives them, with the supply
and the start-up check as notes/assumptions/7.md has them. -/
def Obligations.OutputsAgreeKept : Prop := ∀ s t : State, s.outputsAgree → step s = .next t → t.outputsAgree

/-- Every step keeps the Coil Table and the Move Table in order and within their entries, at most 32 notices and at most 4 replies (R17,
R128, R191, R194). -/
def Obligations.BoundedKept : Prop := ∀ s t : State, s.bounded → step s = .next t → t.bounded

/-- Every step keeps the rows of the images of the Layout Store and the fences in order, within rows 1 to 40 (R4) and fences 1 to 4
(R108). -/
def Obligations.OrderedKept : Prop := ∀ s t : State, s.ordered → step s = .next t → t.ordered

/-- Every step keeps STOPPED and the coordinator's fault part together (R182, R204). -/
def Obligations.StoppedByFaultKept : Prop := ∀ s t : State, s.stoppedByFault → step s = .next t → t.stoppedByFault

/-- The state right after the supply comes on, with the power-on values of R205 as notes/assumptions/2.md has them, meets every invariant: the
outputs are as R127 and R206 give them, the tables and queues are in order, the mode is not STOPPED and no claim meets another or an ACTIVE
fence. -/
def Obligations.ResetMeetsInvariants : Prop :=
  State.reset.outputsAgree ∧ State.reset.bounded ∧ State.reset.ordered ∧ State.reset.stoppedByFault ∧ State.reset.claimsDisjoint
    ∧ State.reset.claimsApart

/-- No step lets a point lie in the claims of two cranes, or in a claim and an ACTIVE fence: every command places claims and fences only so that
they stay apart (R110). A claim granted over an added stretch that touches no obstacle leaves the claims of different cranes without a common
point (R109 (4), R110 (1), R111 (1)). -/
def Obligations.ClaimsKeptApart : Prop :=
  (∀ s t : State, s.claimsApart → step s = .next t → t.claimsApart)
    ∧ ∀ (w : Work) (c : CraneId) (n : Nat) (xt : Cm), w.claimsDisjoint → (∀ d k, w.runway.claims.get d = some k → k.lo ≤ k.hi) →
      w.blocker c (addedStretch (w.runway.claims.get c) (w.requestedClaim c xt)) = none →
      (w.grantClaim c n (w.requestedClaim c xt)).claimsDisjoint
        ∧ (w.grantClaim c n (w.requestedClaim c xt)).runway.claims.get c
            = some ⟨(w.requestedClaim c xt).1, (w.requestedClaim c xt).2, .travel⟩

/-! ### What commands leave alone -/

/-- The committed image, its edition and the validity flag change only at power-on and loss of supply, at the end of the store check and at the
end of a store write (R1, R14, R16). -/
def Obligations.CommittedImageFrame : Prop :=
  ∀ (i : Instr) (s t : State), exec i s = .next t → i ≠ .powerOn → i ≠ .lossOfSupply → (∀ b, i ≠ .storeCheckEnd b) →
    (∀ b, i ≠ .storeWriteEnd b) →
    t.layout.committed = s.layout.committed ∧ t.layout.edition = s.layout.edition ∧ t.layout.valid = s.layout.valid

/-- The Yard Clock changes only at its seconds, the one of a minute tick among them (notes/assumptions/4.md), and with the supply; the bay lines
change only at their own event, and that they keep their levels at POWER_ON and LOSS_OF_SUPPLY too is the model's choice
(notes/assumptions/17.md) (R22, R151). -/
def Obligations.ClockAndLinesFrame : Prop :=
  ∀ (i : Instr) (s t : State), exec i s = .next t →
    (i ≠ .yardClockSecond → i ≠ .minuteTick → i ≠ .powerOn → i ≠ .lossOfSupply → t.clock = s.clock)
      ∧ ((∀ b l x, i ≠ .bayLineChange b l x) →
          ∀ b, (t.bays.get b).inPosition = (s.bays.get b).inPosition ∧ (t.bays.get b).safe = (s.bays.get b).safe)

/-- No command but the two that enter a coil makes a coil record or changes the identity, declared weight, outer diameter or width of one
(R18, R19). -/
def Obligations.CoilIdentityFrame : Prop :=
  ∀ (i : Instr) (s t : State), exec i s = .next t → (∀ q b, i ≠ .coilRegister q b) → (∀ q b, i ≠ .coilAnnounce q b) →
    ∀ k ∈ t.coils.vals, ∃ j ∈ s.coils.vals, k.id = j.id ∧ k.declared = j.declared ∧ k.od = j.od ∧ k.width = j.width

/-! ### Supply and store -/

/-- The supply coming on, or going, gives every block its power-on values, and the nonvolatile store and the levels of the bay lines stay; that these
values stand from that moment on, with the mode SETUP, the validity flag clear, the committed image empty and the receiver in HUNT while the check
runs (notes/assumptions/2.md), that the lines keep their levels (notes/assumptions/17.md), and what stands without supply
(notes/assumptions/7.md), is the model's choice. The end of the store check: a valid store gives its image and edition and sets the validity flag,
any other gives the empty image; the mode is SETUP with the working image open, and MODE_CHANGE is notice number 1 (R16, R34, R205). -/
def Obligations.SupplyAndStoreCheck : Prop :=
  (∀ s : State,
      exec .powerOn s = .next (State.after
        { State.reset with
          power := .checking, layout := { nv := s.layout.nv }, eventNo := s.eventNo, pending := s.pending
          bays := s.bays.map fun _ b => { inPosition := b.inPosition, safe := b.safe } })
        ∧ exec .lossOfSupply s = .next (State.after
          { State.reset with
            power := .off, layout := { nv := s.layout.nv }, eventNo := s.eventNo, pending := s.pending
            bays := s.bays.map fun _ b => { inPosition := b.inPosition, safe := b.safe } }))
    ∧ ∀ (intact : Bool) (s : State), s.power = .checking →
      ∃ t, exec (.storeCheckEnd intact) s = .next t ∧ t.power = .on
        ∧ (intact = true ∧ s.layout.nv.complete = true →
            t.layout.committed = s.layout.nv.image ∧ t.layout.edition = s.layout.nv.edition ∧ t.layout.valid = true)
        ∧ (¬(intact = true ∧ s.layout.nv.complete = true) →
            t.layout.committed = {} ∧ t.layout.edition = 0 ∧ t.layout.valid = false)
        ∧ t.layout.working = some t.layout.committed ∧ t.layout.nv = s.layout.nv ∧ t.link.mode = .setup ∧ t.link.rx = .hunt
        ∧ t.link.notices = [⟨1, s.clock, .modeChange none .setup .powerOn⟩] ∧ t.link.noticeCount = 1 ∧ t.link.lost = false
        ∧ t.link.fetch = none ∧ t.link.cursor = (.coils, 0) ∧ t.link.replies = [] ∧ t.coils = s.coils ∧ t.moves = s.moves
        ∧ t.clock = s.clock ∧ t.sent = []

/-- The end of a store write: the image written becomes the committed image with the next edition and a valid store, or a failed write leaves the
empty image, edition 0 and an invalid store; the working image stays open in SETUP; STORE_DONE is queued; and each block takes up the committed
image: the yard and the runway empty, every crane OUT with no order and no move, no weighing session and no hook latch, the bay scales in WARMUP
with trim 0, a cursor of the SLOTS table back at index 0 (R13, R14, R15, R61, R62, R79, R81, R83, R108, R196, R199); that the seen mark and the
order counter of a crane without an entry stay is the model's reading (notes/assumptions/28.md). -/
def Obligations.StoreWriteEnds : Prop :=
  ∀ (ok : Bool) (s : State) (img : Image), s.layout.writing = some img →
    ∃ t, exec (.storeWriteEnd ok) s = .next t ∧ t.layout.writing = none
      ∧ (ok = true → t.layout.committed = img ∧ t.layout.edition = (if s.layout.edition < 65535 then s.layout.edition + 1 else 1)
          ∧ t.layout.valid = true ∧ t.layout.nv = ⟨img, t.layout.edition, true⟩)
      ∧ (ok = false → t.layout.committed = {} ∧ t.layout.edition = 0 ∧ t.layout.valid = false ∧ t.layout.nv.complete = false)
      ∧ t.layout.working = (if s.link.mode = .setup then s.layout.working else none)
      ∧ t.link.mode = s.link.mode ∧ t.link.replies = s.link.replies
      ∧ t.link.notices = (s.link.queueNotice s.clock (.storeDone ok)).notices
      ∧ t.yard = {} ∧ t.runway.claims = .all none ∧ t.runway.waits = .all none ∧ t.runway.yields = .all none ∧ t.runway.fences = []
      ∧ t.runway.frozen = s.runway.frozen ∧ t.runway.fault = s.runway.fault
      ∧ (∀ c, (t.cranes.get c).service = .out ∧ (t.cranes.get c).order = none ∧ (t.cranes.get c).current = none
          ∧ (t.cranes.get c).park = [] ∧ (t.cranes.get c).putDownFirst = none
          ∧ (t.cranes.get c).counter = (s.cranes.get c).counter ∧ (t.cranes.get c).seen = (s.cranes.get c).seen
          ∧ (t.layout.committed.cranes.get c = none → (t.cranes.get c).timer = false ∧ (t.cranes.get c).last = none
              ∧ (t.cranes.get c).claimLatch = false ∧ (t.cranes.get c).drive = 0 ∧ (t.cranes.get c).fault = none)
          ∧ (t.layout.committed.cranes.get c ≠ none → (t.cranes.get c).timer = (s.cranes.get c).timer
              ∧ (t.cranes.get c).last = (s.cranes.get c).last ∧ (t.cranes.get c).claimLatch = (s.cranes.get c).claimLatch
              ∧ (t.cranes.get c).drive = (s.cranes.get c).drive ∧ (t.cranes.get c).fault = (s.cranes.get c).fault))
      ∧ (∀ c, t.weighing.cranes.get c = { s.weighing.cranes.get c with
          session := none, overload := false, signal := false, unexpected := false })
      ∧ t.link.cursor = (if s.link.cursor.1 = .slots then (.slots, 0) else s.link.cursor)
      ∧ (∀ b, (t.weighing.bays.get b).session = none ∧ (t.weighing.bays.get b).warm = 0 ∧ (t.weighing.bays.get b).trim = 0
          ∧ (t.weighing.bays.get b).state = (if t.layout.committed.bays.get b = none then .none else .warmup))
      ∧ t.clock = s.clock ∧ t.coordFault = s.coordFault ∧ t.sent = []

/-! ### The supervisory link -/

/-- IDENTIFY answers the mode, the validity flag, the edition and the numbers of cranes, rows, slots and bays of the committed image, STATUS the
summary of R198, and nothing changes but the lost flag that the STATUS reply clears (R191, R194, R198, R199). -/
def Obligations.IdentifyAndStatusAnswer : Prop :=
  ∀ (s : State) (seq : Byte), s.listens →
    exec (.identify seq []) s = .next (State.after (s.answering 0x01 seq (.done (.identity
      { mode := s.link.mode
        valid := s.layout.valid
        edition := s.layout.edition
        cranes := ([CraneId.c1, .c2, .c3, .c4].filter fun c => (s.layout.committed.cranes.get c).isSome).length
        rows := s.layout.committed.rows.length
        slots := (s.layout.committed.rows.map fun e => 2 * e.2.b - 1).sum
        bays := ([BayId.b1, .b2].filter fun b => (s.layout.committed.bays.get b).isSome).length }))))
      ∧ exec (.status seq []) s = .next (State.after (({ s with link := { s.link with lost := false } } : State).answering 0x02 seq
        (.done (.summary
          { mode := s.link.mode
            busy := s.layout.writing.isSome
            clock := s.clock
            coils := s.coils.length
            moves := s.moves.table.length
            notices := s.link.notices.length
            lost := s.link.lost
            cranes := s.cranes.map fun c r => (r.service, s.runway.permit.get c, r.fault.map (·.cls))
            frozen := s.runway.frozen
            runwayFault := s.runway.fault.map fun f => (f.cls, f.code)
            coordFault := s.coordFault.map fun f => (f.cls, f.code)
            bays := s.bays.map fun b x => (x.visit.map (·.state), (s.weighing.bays.get b).state, x.inPosition && x.safe) }))))

/-- The bytes that some records take. -/
def recordBytes (l : List Record) : Nat := (l.map fun r => r.bytes.length).sum

/-- CURSOR_SET places the cursor and answers the record count of the table, or refuses a table or an index out of range; READ_NEXT answers as
many records from the cursor onward as were asked for and fit in 248 bytes, at least one, going on at index 0 after the last, and moves the
cursor past them, or refuses a count outside 1 to 8 (R196, R197); the bytes of a record that are counted against the 248 are the model's reading
of section 11 (notes/assumptions/16.md). -/
def Obligations.CursorSetAndReadNext : Prop :=
  (∀ (s : State) (seq : Byte) (body : List Byte), s.takes (.cursorSet seq body) →
    (∀ t, tableOf (u8At body 1) = some t → u16At body 2 < s.recordCount t →
      exec (.cursorSet seq body) s = .next (State.after
        (({ s with link := { s.link with cursor := (t, u16At body 2) } } : State).answering 0x03 seq (.done (.count (s.recordCount t))))))
      ∧ (∀ t, tableOf (u8At body 1) = some t → s.recordCount t ≤ u16At body 2 →
        exec (.cursorSet seq body) s = .next (State.after (s.answering 0x03 seq (.refused .badField 2))))
      ∧ (5 < u8At body 1 → exec (.cursorSet seq body) s = .next (State.after (s.answering 0x03 seq (.refused .badField 1)))))
    ∧ (∀ (s : State) (seq : Byte) (body : List Byte), s.takes (.readNext seq body) → (u8At body 1 = 0 ∨ 8 < u8At body 1) →
      exec (.readNext seq body) s = .next (State.after (s.answering 0x04 seq (.refused .badField 1))))
    ∧ ∀ (s : State) (seq : Byte) (body : List Byte) (t : TableName) (i : Nat), s.takes (.readNext seq body) → s.link.cursor = (t, i) →
      1 ≤ u8At body 1 → u8At body 1 ≤ 8 →
      ∃ k, 1 ≤ k ∧ k ≤ u8At body 1
        ∧ (1 < k → recordBytes (s.recordsFrom t i k) ≤ 248) ∧ (k < u8At body 1 → 248 < recordBytes (s.recordsFrom t i (k + 1)))
        ∧ exec (.readNext seq body) s = .next (State.after
          (({ s with link := { s.link with cursor := (t, (i + k) % s.recordCount t) } } : State).answering 0x04 seq
            (.done (.records ((List.range k).map fun j =>
              ⟨t, (i + j) % s.recordCount t, s.recordAt t ((i + j) % s.recordCount t)⟩)))))

/-- The bytes that some notices take. -/
def noticeBytes (l : List Notice) : Nat := (l.map fun n => n.bytes.length).sum

/-- NOTICE_FETCH takes from the head of the queue as many notices as were asked for, are held and fit, at least one while one is held, and
keeps them in the fetch record; with the sequence byte of the record it answers the record again and takes none; a count outside 1 to 8 is
refused (R195); the bytes of a notice that are counted against the 248 are the model's reading of section 11 (notes/assumptions/16.md). -/
def Obligations.NoticeFetchTakesOrRepeats : Prop :=
  ∀ (s : State) (seq : Byte) (body : List Byte), s.takes (.noticeFetch seq body) →
    ((1 ≤ u8At body 1 ∧ u8At body 1 ≤ 8) →
      (∀ l, s.link.fetch = some (seq, l) → exec (.noticeFetch seq body) s = .next (State.after (s.answering 0x05 seq (.done (.notices l)))))
      ∧ ((∀ l, s.link.fetch ≠ some (seq, l)) →
        ∃ k, k ≤ u8At body 1 ∧ k ≤ s.link.notices.length ∧ (s.link.notices ≠ [] → 1 ≤ k)
          ∧ (1 < k → noticeBytes (s.link.notices.take k) ≤ 248)
          ∧ (k < u8At body 1 → k < s.link.notices.length → 248 < noticeBytes (s.link.notices.take (k + 1)))
          ∧ exec (.noticeFetch seq body) s = .next (State.after
            (({ s with link := { s.link with
                notices := s.link.notices.drop k, fetch := some (seq, s.link.notices.take k) } } : State).answering 0x05 seq
              (.done (.notices (s.link.notices.take k)))))))
      ∧ (¬(1 ≤ u8At body 1 ∧ u8At body 1 ≤ 8) →
        exec (.noticeFetch seq body) s = .next (State.after (s.answering 0x05 seq (.refused .badField 1))))

/-- In every state a frame broken off, a frame with a bad CRC, a length byte above 250 and a request discarded unhandled change nothing but that the
receiver hunts again; that this last command, which the outside sends while 4 replies are held, has its effect whatever is held, and that the
receiver stands in HUNT after every frame command, is the model's choice (notes/assumptions/18.md). A discarded status and a broken-off crane frame
change nothing; a good frame with an unknown code is refused with 4
UNKNOWN_CODE, detail 0, under its code plus 80H; a reply that has left is held no longer (R85, R190, R191, R192 check 1, R209). -/
def Obligations.FramesAndReplies : Prop :=
  ∀ s : State,
    (∀ got, exec (.frameBrokenOff got) s = .next (State.after { s with link := { s.link with rx := .hunt } }))
      ∧ (∀ got, exec (.frameBadCrc got) s = .next (State.after { s with link := { s.link with rx := .hunt } }))
      ∧ (∀ n, exec (.frameLengthOver n) s = .next (State.after { s with link := { s.link with rx := .hunt } }))
      ∧ (∀ code seq body, exec (.requestDiscardedUnhandled code seq body) s
          = .next (State.after { s with link := { s.link with rx := .hunt } }))
      ∧ (∀ c got why, s.received c got = .error why → exec (.craneStatusDiscarded c got) s = .next s.after)
      ∧ (∀ c, exec (.craneFrameBrokenOff c) s = .next s.after)
      ∧ (∀ code seq body, s.listens → exec (.unknownCodeRequest code seq body) s = .next (State.after { s with link := { s.link with
          rx := .hunt, replies := s.link.replies ++ [⟨code + 128, seq, .refused .unknownCode 0⟩] } }))
      ∧ ∀ r rest, s.link.replies = r :: rest →
        exec .replySent s = .next (State.after { s with link := { s.link with replies := rest } })

/-- A mill ID of 12 characters, each a digit or a capital letter (R18). -/
def millIdOk (id : MillId) : Prop := ∀ x ∈ id, (0x30 ≤ x.toNat ∧ x.toNat ≤ 0x39) ∨ (0x41 ≤ x.toNat ∧ x.toNat ≤ 0x5A)

/-- A value lies between two ends, both included. -/
def within (lo v hi : Nat) : Prop := lo ≤ v ∧ v ≤ hi

/-- The fields that enter a coil, each with its position (R18, R26). -/
def coilFields (body : List Byte) : List (Nat × Prop) :=
  [(1, millIdOk (fieldBytes body 1 12)), (13, within 500 (u16At body 13) 45000), (15, within 800 (u16At body 15) 2500),
    (17, within 600 (u16At body 17) 2200), (19, u16At body 19 ≤ 4320)]

/-- The fields of a part of the layout that has a number and an action, the items being asked for with SET only (R3, R4, R7). -/
def partFields (body : List Byte) (most : Nat) (items : List (Nat × Prop)) : List (Nat × Prop) :=
  (1, within 1 (u8At body 1) most) :: (2, u8At body 2 ≤ 1) :: if u8At body 2 = 0 then items else []

/-- The fields of cradle `i` of a check-in, counted from 0 (R150 (3), (4)). -/
def cradleFields (body : List Byte) (i : Nat) : List (Nat × Prop) :=
  [(31 + 6 * i, u16At body (31 + 6 * i) ≤ u16At body 18 ∧ ∀ j, i = j + 1 → u16At body (31 + 6 * j) < u16At body (31 + 6 * i)),
    (33 + 6 * i, within 500 (u16At body (33 + 6 * i)) 45000), (35 + 6 * i, within 800 (u16At body (35 + 6 * i)) 2500)]

/-- The fields of a request in the order of its body, each with its position and with the range and the relations that its rule gives; a relation
between two fields stands at the position that notes/assumptions/6.md gives (check 5 of R192; R2, R3, R4, R6, R7, R26, R28, R30, R45, R121, R123,
R150). -/
def fieldsOf (s : State) : Instr → List (Nat × Prop)
  | .layoutRunway _ body =>
    [(1, within 2000 (u16At body 1) 65000), (3, within 500 (u16At body 3) 4000), (5, u16At body 5 = 0 ∨ within 50 (u16At body 5) 1000),
      (7, u16At body 7 = 0 ∨ within 10 (u16At body 7) 200), (9, u16At body 9 = 0 ∨ within 50 (u16At body 9) 500)]
  | .layoutIntake _ body => [(1, u16At body 1 ≤ 65000), (3, u16At body 3 ≤ 4000), (5, u16At body 5 ≤ 4000)]
  | .layoutCrane _ body =>
    partFields body 4 [(3, within 300 (u16At body 3) 1500), (5, within 10000 (u16At body 5) 60000), (7, u16At body 7 ≤ 15000),
      (15, within 1 (u32At body 15) 4000000), (19, within 1 (u32At body 19) 4000000)]
  | .layoutRow _ body =>
    partFields body 40 [(3, u16At body 3 ≤ 65000), (5, u16At body 5 ≤ 4000), (7, within 150 (u16At body 7) 400), (9, within 2 (u8At body 9) 12),
      (10, within 800 (u16At body 10) 2500 ∧ u16At body 10 ≤ u16At body 12), (12, within 800 (u16At body 12) 2500),
      (14, within 600 (u16At body 14) 2200)]
  | .layoutBay _ body =>
    partFields body 2 [(3, u16At body 3 ≤ 65000 ∧ u16At body 3 < u16At body 5), (5, u16At body 5 ≤ 65000),
      (7, u16At body 7 ≤ 65000 ∧ u16At body 3 ≤ u16At body 7 ∧ u16At body 7 + 1600 ≤ u16At body 5), (9, u16At body 9 ≤ 4000),
      (11, within 1000 (u32At body 11) 80000), (27, within 1 (u32At body 27) 4000000), (31, within 1 (u32At body 31) 4000000),
      (35, within 1 (u32At body 35) 4000000), (39, within 1 (u32At body 39) 4000000)]
  | .coilRegister _ body =>
    coilFields body ++ [(21, within 1 (u8At body 21) 40 ∧ u8At body 22 ≤ 1 ∧ within 1 (u8At body 23) 12)]
  | .coilAnnounce _ body =>
    coilFields body ++ [(21, within 1 (u8At body 21) 2), (22, u8At body 22 ≤ 7 ∨ u8At body 22 = 255)]
  | .coilRemove _ body => [(1, millIdOk (fieldBytes body 1 12))]
  | .rowProtect _ body => [(1, within 1 (u8At body 1) 40), (2, u8At body 2 ≤ 1)]
  | .fenceAdd _ body =>
    [(1, u16At body 1 ≤ u16At body 3), (3, ∃ z, s.layout.committed.size = some z ∧ u16At body 3 ≤ z.length)]
  | .fenceRemove _ body | .craneReinstate _ body => [(1, within 1 (u8At body 1) 4)]
  | .truckCheckin _ body =>
    [(1, within 1 (u8At body 1) 2),
      (2, ∀ x ∈ fieldBytes body 2 16,
        (0x30 ≤ x.toNat ∧ x.toNat ≤ 0x39) ∨ (0x41 ≤ x.toNat ∧ x.toNat ≤ 0x5A) ∨ x.toNat = 0x2D ∨ x.toNat = 0x20),
      (18, within 400 (u16At body 18) 1600),
      (20, u16At body 20 ≤ 20000 ∧ u16At body 20 ≤ u16At body 24 ∧ u16At body 20 + u16At body 22 ≤ u16At body 28),
      (22, u16At body 22 ≤ 20000 ∧ u16At body 22 ≤ u16At body 26), (24, within 1 (u16At body 24) 40000), (26, within 1 (u16At body 26) 40000),
      (28, within 1 (u16At body 28) 60000), (30, within 1 (u8At body 30) 4)] ++ (List.range (u8At body 30)).flatMap (cradleFields body)
  | .truckRelease _ body | .truckAbort _ body | .scaleZero _ body => [(1, within 1 (u8At body 1) 2)]
  | _ => []

/-- The first field at fault of a list stands at a position: the fields before it are right. -/
def firstFault (l : List (Nat × Prop)) (p : Nat) : Prop := ∃ before P rest, l = before ++ (p, P) :: rest ∧ ¬ P ∧ ∀ x ∈ before, x.2

/-- Checks 2 to 4 of R192 for every request, in their order: a wrong length, a store write that runs, a mode that does not take the telegram; and
check 5 for the layout parts, COIL_REGISTER, COIL_ANNOUNCE, COIL_REMOVE, ROW_PROTECT, FENCE_ADD, FENCE_REMOVE, CRANE_REINSTATE, TRUCK_CHECKIN,
TRUCK_RELEASE, TRUCK_ABORT and SCALE_ZERO: 3 BAD_FIELD with the position of the first field that is out of its range or does not agree with another;
that a relation of two fields is named at the field of which its rule states it is the model's reading (notes/assumptions/6.md). The first check that
fails gives the refusal, and nothing else changes (R2, R3, R4, R6, R7, R26, R150, R192). -/
def Obligations.RequestChecksInOrder : Prop :=
  ∀ (i : Instr) (t : Telegram) (s : State), telegramOf i = some t → s.listens →
    (t.body.length ∉ t.lengths →
      exec i s = .next (State.after (s.answering t.code t.seq (.refused .badLength (BitVec.ofNat 8 t.lengthDetail)))))
    ∧ (t.body.length ∈ t.lengths → s.layout.writing ≠ none → t.whileBusy = false →
      exec i s = .next (State.after (s.answering t.code t.seq (.refused .busy 0))))
    ∧ (t.body.length ∈ t.lengths → (s.layout.writing = none ∨ t.whileBusy = true) → s.link.mode ∉ t.modes →
      exec i s = .next (State.after (s.answering t.code t.seq (.refused .badMode 0))))
    ∧ ∀ p, s.takes i → firstFault (fieldsOf s i) p →
      exec i s = .next (State.after (s.answering t.code t.seq (.refused .badField (BitVec.ofNat 8 p))))

/-- Before the end of the start-up check a request changes nothing, and so it is without supply by the model's choice (notes/assumptions/7.md); while 4
replies are held it is discarded unhandled without a reply (R190, R191, R205). -/
def Obligations.RequestsUnheard : Prop :=
  ∀ (i : Instr) (t : Telegram) (s : State), telegramOf i = some t →
    (s.power ≠ .on → exec i s = .next s.after)
      ∧ (s.power = .on → 4 ≤ s.link.replies.length → exec i s = .next (State.after { s with link := { s.link with rx := .hunt } }))

/-! ### The layout -/

/-- The layout is not locked: no coil and no visit (R11). -/
def layoutFree (s : State) : Prop := s.coils = [] ∧ ∀ b, (s.bays.get b).visit = none

/-- The state with a working image. -/
def withWorking (s : State) (img : Image) : State := { s with layout := { s.layout with working := some img } }

/-- The items of a LAYOUT_RUNWAY are in range, a 0 for M, P and S_min selecting the default (R2). -/
def runwayItemsOk (body : List Byte) : Prop :=
  (2000 ≤ u16At body 1 ∧ u16At body 1 ≤ 65000) ∧ (500 ≤ u16At body 3 ∧ u16At body 3 ≤ 4000)
    ∧ (u16At body 5 = 0 ∨ (50 ≤ u16At body 5 ∧ u16At body 5 ≤ 1000)) ∧ (u16At body 7 = 0 ∨ (10 ≤ u16At body 7 ∧ u16At body 7 ≤ 200))
    ∧ (u16At body 9 = 0 ∨ (50 ≤ u16At body 9 ∧ u16At body 9 ≤ 500))

/-- The items of a LAYOUT_INTAKE are in range (R6). -/
def intakeItemsOk (body : List Byte) : Prop := u16At body 1 ≤ 65000 ∧ u16At body 3 ≤ 4000 ∧ u16At body 5 ≤ 4000

/-- The items of a LAYOUT_CRANE with action SET are in range (R3). -/
def craneItemsOk (body : List Byte) : Prop :=
  (300 ≤ u16At body 3 ∧ u16At body 3 ≤ 1500) ∧ (10000 ≤ u16At body 5 ∧ u16At body 5 ≤ 60000) ∧ u16At body 7 ≤ 15000
    ∧ (1 ≤ u32At body 15 ∧ u32At body 15 ≤ 4000000) ∧ (1 ≤ u32At body 19 ∧ u32At body 19 ≤ 4000000)

/-- The items of a LAYOUT_ROW with action SET are in range (R4). -/
def rowItemsOk (body : List Byte) : Prop :=
  u16At body 3 ≤ 65000 ∧ u16At body 5 ≤ 4000 ∧ (150 ≤ u16At body 7 ∧ u16At body 7 ≤ 400) ∧ (2 ≤ u8At body 9 ∧ u8At body 9 ≤ 12)
    ∧ (800 ≤ u16At body 10 ∧ u16At body 10 ≤ u16At body 12 ∧ u16At body 12 ≤ 2500) ∧ (600 ≤ u16At body 14 ∧ u16At body 14 ≤ 2200)

/-- The items of a LAYOUT_BAY with action SET are in range (R7). -/
def bayItemsOk (body : List Byte) : Prop :=
  (u16At body 3 < u16At body 5 ∧ u16At body 5 ≤ 65000) ∧ (u16At body 3 ≤ u16At body 7 ∧ u16At body 7 + 1600 ≤ u16At body 5)
    ∧ u16At body 9 ≤ 4000 ∧ (1000 ≤ u32At body 11 ∧ u32At body 11 ≤ 80000) ∧ (1 ≤ u32At body 27 ∧ u32At body 27 ≤ 4000000)
    ∧ (1 ≤ u32At body 31 ∧ u32At body 31 ≤ 4000000) ∧ (1 ≤ u32At body 35 ∧ u32At body 35 ≤ 4000000)
    ∧ (1 ≤ u32At body 39 ∧ u32At body 39 ≤ 4000000)

/-- The action is DELETE, or SET with items in range (R3, R4, R7). -/
def actionOk (body : List Byte) (items : Prop) : Prop := u8At body 2 = 1 ∨ (u8At body 2 = 0 ∧ items)

/-- LAYOUT_BEGIN opens the working image as a copy of the committed image or as the empty image, locked or not; LAYOUT_RUNWAY and LAYOUT_INTAKE
replace their part, a 0 for M, P and S_min giving the default; LAYOUT_CRANE, LAYOUT_ROW and LAYOUT_BAY with action SET and every item in range put
the entry of the number named, and with action DELETE remove it, present or not; every other entry and part stays (R2, R3, R4, R6, R7, R9, R10,
R11). -/
def Obligations.LayoutPartsEdited : Prop :=
  (∀ (s : State) (seq : Byte) (body : List Byte), s.takes (.layoutBegin seq body) →
    (u8At body 1 = 0 → exec (.layoutBegin seq body) s
        = .next (State.after ((withWorking s s.layout.committed).answering 0x10 seq (.done .plain))))
      ∧ (u8At body 1 = 1 → exec (.layoutBegin seq body) s = .next (State.after ((withWorking s {}).answering 0x10 seq (.done .plain))))
      ∧ (1 < u8At body 1 → exec (.layoutBegin seq body) s = .next (State.after (s.answering 0x10 seq (.refused .badField 1)))))
    ∧ ∀ (s : State) (seq : Byte) (body : List Byte) (img : Image), s.layout.working = some img → layoutFree s →
      (s.takes (.layoutRunway seq body) → runwayItemsOk body →
        exec (.layoutRunway seq body) s = .next (State.after ((withWorking s
          { img with
            size := some ⟨u16At body 1, u16At body 3⟩
            margin := if u16At body 5 = 0 then 200 else u16At body 5
            tolerance := if u16At body 7 = 0 then 50 else u16At body 7
            sMin := if u16At body 9 = 0 then 100 else u16At body 9 }).answering 0x11 seq (.done .plain))))
      ∧ (s.takes (.layoutIntake seq body) → intakeItemsOk body →
        exec (.layoutIntake seq body) s = .next (State.after ((withWorking s
          { img with intake := some ⟨u16At body 1, u16At body 3, u16At body 5⟩ }).answering 0x14 seq (.done .plain))))
      ∧ (∀ c : CraneId, s.takes (.layoutCrane seq body) → u8At body 1 = craneNum c →
        (u8At body 2 = 0 → craneItemsOk body → exec (.layoutCrane seq body) s = .next (State.after ((withWorking s
          { img with cranes := img.cranes.set c (some
              { h := u16At body 3, swl := u16At body 5, tare := u16At body 7, z1 := s24At body 9, z2 := s24At body 12
                s1 := u32At body 15, s2 := u32At body 19 }) }).answering 0x12 seq (.done .plain))))
        ∧ (u8At body 2 = 1 → exec (.layoutCrane seq body) s
            = .next (State.after ((withWorking s { img with cranes := img.cranes.set c none }).answering 0x12 seq (.done .plain)))))
      ∧ (s.takes (.layoutRow seq body) → (1 ≤ u8At body 1 ∧ u8At body 1 ≤ 40) →
        (u8At body 2 = 0 → rowItemsOk body → exec (.layoutRow seq body) s = .next (State.after ((withWorking s
          { img with rows := img.rows.put (u8At body 1) (
              { x := u16At body 3, y0 := u16At body 5, pitch := u16At body 7, b := u8At body 9, odMin := u16At body 10
                odMax := u16At body 12, maxWidth := u16At body 14 }) }).answering 0x13 seq (.done .plain))))
        ∧ (u8At body 2 = 1 → exec (.layoutRow seq body) s
            = .next (State.after ((withWorking s { img with rows := img.rows.erase (u8At body 1) }).answering 0x13 seq (.done .plain)))))
      ∧ ∀ b : BayId, s.takes (.layoutBay seq body) → u8At body 1 = bayNum b →
        (u8At body 2 = 0 → bayItemsOk body → exec (.layoutBay seq body) s = .next (State.after ((withWorking s
          { img with bays := img.bays.set b (some
              { bx0 := u16At body 3, bx1 := u16At body 5, xk := u16At body 7, yt := u16At body 9, capacity := u32At body 11
                z1 := s24At body 15, z2 := s24At body 18, z3 := s24At body 21, z4 := s24At body 24
                s1 := u32At body 27, s2 := u32At body 31, s3 := u32At body 35, s4 := u32At body 39 }) }).answering 0x15 seq
            (.done .plain))))
        ∧ (u8At body 2 = 1 → exec (.layoutBay seq body) s
            = .next (State.after ((withWorking s { img with bays := img.bays.set b none }).answering 0x15 seq (.done .plain))))

/-- The value a tuning field takes: 0 gives the default, a value below or above the range gives the end of the range. -/
def tuned (lo hi default v : Nat) : Nat := if v = 0 then default else if v < lo then lo else if hi < v then hi else v

/-- The value was replaced by an end of its range. -/
def replacedByEnd (lo hi v : Nat) : Prop := v ≠ 0 ∧ (v < lo ∨ hi < v)

/-- LAYOUT_TUNING of an unlocked layout sets all eight items, each brought into its range, and answers the clamped flag, set exactly when a field was
replaced by an end of its range; a locked layout refuses it, and LAYOUT_RUNWAY, LAYOUT_INTAKE, LAYOUT_CRANE, LAYOUT_ROW and LAYOUT_BAY with fields
that pass their check, SET and DELETE alike, with 27 LAYOUT_LOCKED and a detail that no rule states (R8, R10, R11, notes/assumptions/5.md). -/
def Obligations.LayoutTunedOrLocked : Prop :=
  (∀ (s : State) (seq : Byte) (body : List Byte) (img : Image), s.takes (.layoutTuning seq body) → s.layout.working = some img →
    layoutFree s → ∃ clamped : Bool,
      (clamped = true ↔ replacedByEnd 100 2000 (u16At body 1) ∨ replacedByEnd 200 3000 (u16At body 3) ∨ replacedByEnd 4 16 (u8At body 5)
        ∨ replacedByEnd 10 500 (u16At body 6) ∨ replacedByEnd 2 20 (u8At body 8) ∨ replacedByEnd 200 2000 (u16At body 9)
        ∨ replacedByEnd 10 600 (u16At body 11) ∨ replacedByEnd 1 20 (u8At body 13))
      ∧ exec (.layoutTuning seq body) s = .next (State.after ((withWorking s
        { img with tuning :=
          { reportTimeout := tuned 100 2000 500 (u16At body 1), settle := tuned 200 3000 800 (u16At body 3)
            window := tuned 4 16 8 (u8At body 5), band := tuned 10 500 40 (u16At body 6), stability := tuned 2 20 6 (u8At body 8)
            emptyHook := tuned 200 2000 500 (u16At body 9), claimWait := tuned 10 600 60 (u16At body 11)
            deviation := tuned 1 20 5 (u8At body 13) } }).answering 0x16 seq (.done (.clamped clamped)))))
    ∧ ∀ (s : State) (seq : Byte) (body : List Byte), ¬ layoutFree s →
      (s.takes (.layoutTuning seq body) →
        ∃ d, exec (.layoutTuning seq body) s = .next (State.after (s.answering 0x16 seq (.refused .layoutLocked d))))
      ∧ (s.takes (.layoutRunway seq body) → runwayItemsOk body →
        ∃ d, exec (.layoutRunway seq body) s = .next (State.after (s.answering 0x11 seq (.refused .layoutLocked d))))
      ∧ (s.takes (.layoutIntake seq body) → intakeItemsOk body →
        ∃ d, exec (.layoutIntake seq body) s = .next (State.after (s.answering 0x14 seq (.refused .layoutLocked d))))
      ∧ (s.takes (.layoutCrane seq body) → (1 ≤ u8At body 1 ∧ u8At body 1 ≤ 4) → actionOk body (craneItemsOk body) →
        ∃ d, exec (.layoutCrane seq body) s = .next (State.after (s.answering 0x12 seq (.refused .layoutLocked d))))
      ∧ (s.takes (.layoutRow seq body) → (1 ≤ u8At body 1 ∧ u8At body 1 ≤ 40) → actionOk body (rowItemsOk body) →
        ∃ d, exec (.layoutRow seq body) s = .next (State.after (s.answering 0x13 seq (.refused .layoutLocked d))))
      ∧ (s.takes (.layoutBay seq body) → (1 ≤ u8At body 1 ∧ u8At body 1 ≤ 2) → actionOk body (bayItemsOk body) →
        ∃ d, exec (.layoutBay seq body) s = .next (State.after (s.answering 0x15 seq (.refused .layoutLocked d))))

/-- LAYOUT_COMMIT: a locked layout refuses it with 27 LAYOUT_LOCKED; else an unfinished move with 18 MOVE_STATE; else a bay session with 29
SCALE_STATE, each with a detail that no rule states (notes/assumptions/5.md); with none of these it is ACCEPTED with the store write begun when no
image check fails, and otherwise refused with 26 LAYOUT_INVALID and the lowest code that fails; a refusal changes nothing else (R11, R12, R13). -/
def Obligations.LayoutCommitChecked : Prop :=
  (∀ (s : State) (seq : Byte) (body : List Byte), s.takes (.layoutCommit seq body) →
    (¬ layoutFree s → ∃ d, exec (.layoutCommit seq body) s = .next (State.after (s.answering 0x17 seq (.refused .layoutLocked d))))
    ∧ (layoutFree s → s.moves.table ≠ [] →
      ∃ d, exec (.layoutCommit seq body) s = .next (State.after (s.answering 0x17 seq (.refused .moveState d))))
    ∧ (layoutFree s → s.moves.table = [] → (∃ b, (s.weighing.bays.get b).session ≠ none) →
      ∃ d, exec (.layoutCommit seq body) s = .next (State.after (s.answering 0x17 seq (.refused .scaleState d)))))
    ∧ ∀ (s : State) (seq : Byte) (body : List Byte) (img : Image), s.takes (.layoutCommit seq body) → s.layout.working = some img →
      img.rowsOrdered → layoutFree s → s.moves.table = [] → (∀ b, (s.weighing.bays.get b).session = none) →
      ((∀ k, ¬ img.failsCheck k) → exec (.layoutCommit seq body) s = .next (State.after
        (({ s with layout := { s.layout with writing := some img, nv := { s.layout.nv with complete := false } } } : State).answering 0x17 seq
          .accepted)))
      ∧ ∀ k, img.failsCheck k → (∀ j < k, ¬ img.failsCheck j) →
        exec (.layoutCommit seq body) s = .next (State.after (s.answering 0x17 seq (.refused .layoutInvalid (BitVec.ofNat 8 k))))

/-! ### The modes -/

/-- RUN_START with a valid store and nothing for the Dispatcher to start: the mode is RUN with its MODE_CHANGE notice, and a working image open in
SETUP is discarded; with an invalid store it is refused with 26 LAYOUT_INVALID, detail 0. QUIESCE is refused with 18 MOVE_STATE while a move is
ACTIVE (detail 1) or, with none ACTIVE, HELD (detail 2), and otherwise makes the mode QUIESCED; ENTER_SETUP is refused with 20 CRANE_STATE and the
lowest YIELDING crane, and otherwise makes the mode SETUP and opens the working image as a copy of the committed one; nothing else changes (R200,
R201, R202, R203). -/
def Obligations.ModesEntered : Prop :=
  (∀ (s : State) (seq : Byte) (body : List Byte), s.takes (.runStart seq body) →
      (s.layout.valid = true → s.quiet → exec (.runStart seq body) s = .next (State.after
        ((({ s with
            link := { s.link with mode := .run }
            layout := { s.layout with working := if s.link.mode = .setup then none else s.layout.working } } : State).noting
          (.modeChange (some s.link.mode) .run .runStart)).answering 0x20 seq (.done .plain))))
      ∧ (s.layout.valid = false → exec (.runStart seq body) s = .next (State.after (s.answering 0x20 seq (.refused .layoutInvalid 0)))))
    ∧ (∀ (s : State) (seq : Byte) (body : List Byte), s.takes (.quiesce seq body) →
      ((∃ m ∈ s.moves.table.vals, m.state = .active) →
        exec (.quiesce seq body) s = .next (State.after (s.answering 0x21 seq (.refused .moveState 1))))
      ∧ ((∀ m ∈ s.moves.table.vals, m.state ≠ .active) → (∃ m ∈ s.moves.table.vals, m.state = .held) →
        exec (.quiesce seq body) s = .next (State.after (s.answering 0x21 seq (.refused .moveState 2))))
      ∧ ((∀ m ∈ s.moves.table.vals, m.state ≠ .active ∧ m.state ≠ .held) →
        exec (.quiesce seq body) s = .next (State.after ((({ s with link := { s.link with mode := .quiesced } } : State).noting
          (.modeChange (some .run) .quiesced .quiesce)).answering 0x21 seq (.done .plain)))))
      ∧ ∀ (s : State) (seq : Byte) (body : List Byte), s.takes (.enterSetup seq body) →
        (∀ c, (s.cranes.get c).service = .yielding → (∀ d, craneNum d < craneNum c → (s.cranes.get d).service ≠ .yielding) →
          exec (.enterSetup seq body) s
            = .next (State.after (s.answering 0x22 seq (.refused .craneState (BitVec.ofNat 8 (craneNum c))))))
        ∧ ((∀ c, (s.cranes.get c).service ≠ .yielding) →
          exec (.enterSetup seq body) s = .next (State.after
            ((({ withWorking s s.layout.committed with link := { s.link with mode := .setup } } : State).noting
              (.modeChange (some .quiesced) .setup .enterSetup)).answering 0x22 seq (.done .plain))))

/-- The state of a visit after RESTART, once the lines have been read; `none`: it is removed (R151, R171, R175). -/
def visitAfterRestart (x : Bay) (v : Visit) : Option VisitState :=
  match v.state with
  | .securing | .taring => some (if x.inPosition && x.safe then .taring else .securing)
  | .ready => some (if x.inPosition && x.safe then .ready else .securing)
  | .loading | .paused | .verifying => some .verifying
  | .verified => some .verified
  | .discrepancy | .unloading => some .discrepancy
  | .departing => if x.inPosition then some .departing else none

/-- The session that a visit has after RESTART: TARE or GROSS at a secured bay (R151, R170, R175). -/
def sessionAfterRestart (x : Bay) (v : Visit) : Option SessionKind :=
  if x.inPosition && x.safe then
    match v.state with
    | .securing | .taring => some .tare
    | .loading | .paused | .verifying => some .gross
    | .ready | .verified | .discrepancy | .unloading | .departing => none
  else none

/-- RESTART makes a plan entry WITHDRAWN: PLANNED or MOVING in LOADING and PAUSED, ON_TRUCK in UNLOADING when its cradle is no longer LOADED
(R175). -/
def entryEnds (v : Visit) (e : Entry) : Prop :=
  ((v.state = .loading ∨ v.state = .paused) ∧ (e.state = .planned ∨ e.state = .moving))
    ∨ (v.state = .unloading ∧ e.state = .onTruck ∧ ∀ k id p, v.cradle e.cradle = some k → k.state ≠ .loaded id p)

/-- A cradle after RESTART: no reservation and no picking move (R175). -/
def cradleAfterRestart : CradleState → CradleState
  | .free | .reserved _ => .free
  | .loaded id _ => .loaded id none

/-- A visit `p` is what RESTART leaves of `v` (R175). -/
def visitRestarted (x : Bay) (v p : Visit) : Prop :=
  visitAfterRestart x v = some p.state ∧ p.cradles = (v.cradles.map fun k => { k with state := cradleAfterRestart k.state })
    ∧ p.plan.length = v.plan.length
    ∧ (∀ (i : Nat) (e : Entry), v.plan[i]? = some e → (entryEnds v e → p.plan[i]? = some { e with state := .withdrawn }) ∧ (¬ entryEnds v e → p.plan[i]? = some e))
    ∧ { p with state := v.state, cradles := v.cradles, plan := v.plan } = v

/-- What RESTART makes of the bays: lock and waiting order empty, the lines as they were, a visit changed by its state and its lines, and no session
but the TARE or GROSS that the visit then calls for, started at once, waiting for READY at a bad scale (R75, R76, R79, R165, R175). -/
def baysRestarted (s t : State) : Prop :=
  ∀ b, (t.bays.get b).lock = none ∧ (t.bays.get b).waiting = [] ∧ (t.bays.get b).inPosition = (s.bays.get b).inPosition
    ∧ (t.bays.get b).safe = (s.bays.get b).safe
    ∧ ((s.bays.get b).visit = none → (t.bays.get b).visit = none ∧ (t.weighing.bays.get b).session = none)
    ∧ (∀ v, (s.bays.get b).visit = some v →
      (visitAfterRestart (s.bays.get b) v = none → (t.bays.get b).visit = none)
      ∧ (visitAfterRestart (s.bays.get b) v ≠ none → ∃ p, (t.bays.get b).visit = some p ∧ visitRestarted (s.bays.get b) v p)
      ∧ (sessionAfterRestart (s.bays.get b) v = none → (t.weighing.bays.get b).session = none)
      ∧ ∀ k, sessionAfterRestart (s.bays.get b) v = some k → (t.weighing.bays.get b).session = some
        { kind := k, started := s.clock
          stage := if (s.weighing.bays.get b).state = .ready ∨ (s.weighing.bays.get b).state = .none then .settle else .waitReady })
    ∧ t.weighing.bays.get b = { s.weighing.bays.get b with session := (t.weighing.bays.get b).session }

/-- What RESTART makes of the yard: a slot that is the location of one coil is OCCUPIED with it, one that is the location of none is FREE, and a
saddle holds the coil whose location it is (R34 (3), (4)). -/
def yardRestarted (s t : State) : Prop :=
  (∀ k ∈ s.coils.vals, ∀ a, k.loc = .slot a → a.pos ≤ 12 → s.layout.committed.slotExists a = true →
      (∀ h ∈ s.coils.vals, ∀ c, h.loc = .slot c → c.key = a.key → h = k) → t.slot a = some (.occupied k.id))
    ∧ (∀ a, (∀ k ∈ s.coils.vals, k.loc ≠ .slot a) → t.slot a = none)
    ∧ ∀ x, (∀ k ∈ s.coils.vals, k.loc = .saddle x → (∀ h ∈ s.coils.vals, h.loc = .saddle x → h = k) → t.yard.onSaddle x = some k.id)
      ∧ ((∀ k ∈ s.coils.vals, k.loc ≠ .saddle x) → t.yard.onSaddle x = none)

/-- The notices of a bay at RESTART: its lines are read as if each had just changed, so a visit SECURING, TARING or READY that takes another state says
so, and a DEPARTING one that is removed; a session that starts at a bad scale says that it has failed (R63, R75, R151, R171, R175). -/
def restartTells (s : State) (b : BayId) (v : Visit) : List NoticeBody :=
  (match visitAfterRestart (s.bays.get b) v with
    | none => [.truckState b v.truck none .departed none]
    | some .taring => if v.state = .taring then [] else [.truckState b v.truck (some .taring) .secured none]
    | some .securing => if v.state = .securing then [] else [.truckState b v.truck (some .securing) .unsecured none]
    | some _ => [])
  ++ match sessionAfterRestart (s.bays.get b) v with
    | some k => if (s.weighing.bays.get b).state = .ready ∨ (s.weighing.bays.get b).state = .none then []
        else [.scaleState b (s.weighing.bays.get b).state (some k) .failed none]
    | none => []

/-- The notices of both bays, bay 1 first (the model's choice, notes/assumptions/43.md). -/
def restartNotices (s : State) : List NoticeBody :=
  [BayId.b1, .b2].flatMap fun b => match (s.bays.get b).visit with | some v => restartTells s b v | none => []

/-- RESTART: the mode is QUIESCED, the queue is emptied and holds the MODE_CHANGE notice and after it only those of the bays that read their lines,
each numbered on and with the present time, and each block takes its RESTART values: no fault part, no unfinished move, no claim, wait, yield or
freeze, every fence ACTIVE; every crane OUT with STOP sent to those whose link is alive; the slots and the saddles rebuilt from the Coil Table; every
coil where it was, without an active move, and without its visit field where RESTART withdraws its entry; lock and waiting order of a bay empty, a
visit, its cradles and its entries changed by its state and its lines; no weighing session but the TARE or GROSS that a visit then calls for, the
latches of the hooks clear; the Yard Clock running on. That the STOP takes the next number of the crane's order counter and the counter keeps it is
the model's reading (notes/assumptions/12.md), and that the notices of bay 1 stand before those of bay 2 is its choice (notes/assumptions/43.md) (R34,
R45, R79, R81, R83, R107, R108, R165, R175, R189, R204). -/
def Obligations.RestartTakesRestartValues : Prop :=
  ∀ (s : State) (seq : Byte) (body : List Byte), s.takes (.restart seq body) →
    ∃ t, exec (.restart seq body) s = .next t ∧ t.link.mode = .quiesced
      ∧ t.link.notices.head? = some ⟨nextCount 65535 s.link.noticeCount, s.clock, .modeChange (some s.link.mode) .quiesced .restart⟩
      ∧ t.link.notices = (({ s with link := { s.link with notices := [], lost := false } } : State).notingAll
          (.modeChange (some s.link.mode) .quiesced .restart :: restartNotices s)).link.notices
      ∧ t.link.lost = false ∧ t.link.fetch = none ∧ t.link.cursor = (.coils, 0)
      ∧ t.link.replies = s.link.replies ++ [⟨0xA3#8, seq, .done .plain⟩]
      ∧ t.coordFault = none ∧ t.runway.fault = none ∧ t.runway.frozen = false ∧ t.runway.sepLatches = []
      ∧ t.runway.claims = .all none ∧ t.runway.waits = .all none ∧ t.runway.yields = .all none
      ∧ t.runway.fences = s.runway.fences.map (fun e => (e.1, { e.2 with state := .active }))
      ∧ t.moves.table = [] ∧ t.moves.queue = [] ∧ t.moves.last = s.moves.last
      ∧ (∀ c, (t.cranes.get c).service = .out ∧ (t.cranes.get c).seen = false ∧ (t.cranes.get c).last = (s.cranes.get c).last
          ∧ (t.cranes.get c).timer = false ∧ (t.cranes.get c).order = none ∧ (t.cranes.get c).current = none
          ∧ (t.cranes.get c).park = [] ∧ (t.cranes.get c).putDownFirst = none ∧ (t.cranes.get c).claimLatch = false
          ∧ (t.cranes.get c).drive = 0 ∧ (t.cranes.get c).fault = none)
      ∧ (∀ c, t.weighing.cranes.get c = { s.weighing.cranes.get c with
          session := none, overload := false, signal := false, unexpected := false })
      ∧ (∀ o ∈ t.sent, o.kind = .stop ∧ (s.cranes.get o.crane).timer = true
          ∧ o.num = nextCount 255 (s.cranes.get o.crane).counter ∧ (t.cranes.get o.crane).counter = o.num)
      ∧ (∀ c, (s.cranes.get c).timer = true → (∀ o, (s.cranes.get c).order = some o → o.kind ≠ .abortLower) →
          ∃ o ∈ t.sent, o.crane = c)
      ∧ t.coils.map (fun e => (e.1, { e.2 with visit := none })) = s.coils.map (fun e => (e.1, { e.2 with visit := none, active := none }))
      ∧ (∀ (j : Nat) (k h : Coil), s.coils.get? j = some k → t.coils.get? j = some h →
          ((∃ b v, (s.bays.get b).visit = some v ∧ ∃ e ∈ v.plan, e.coil = k.id ∧ entryEnds v e) → h.visit = none)
          ∧ ((¬ ∃ b v, (s.bays.get b).visit = some v ∧ ∃ e ∈ v.plan, e.coil = k.id ∧ entryEnds v e) → h.visit = k.visit))
      ∧ yardRestarted s t ∧ t.yard.protect = s.yard.protect ∧ baysRestarted s t
      ∧ t.clock = s.clock ∧ t.layout.committed = s.layout.committed ∧ t.layout.working = none ∧ t.layout.valid = s.layout.valid

/-! ### Slots and coils -/

/-- A slot is a candidate for a coil exactly when it exists and the eight conditions of R40 hold. -/
def Obligations.CandidateMeetsStackRules : Prop :=
  ∀ (s : State) (ld : Load) (a : SlotAddr),
    s.isCandidate ld a = true ↔
      ∃ e, s.layout.committed.rows.get? a.row = some e ∧ 1 ≤ a.pos ∧ (a.tier = .bottom → a.pos ≤ e.b) ∧ (a.tier = .top → a.pos < e.b)
        ∧ s.slot a = none ∧ a.row ∉ s.yard.protect ∧ e.odMin ≤ ld.od ∧ ld.od ≤ e.odMax ∧ ld.width ≤ e.maxWidth
        ∧ (a.tier = .top → ld.hot = false ∧ ∃ l r kl kr,
            s.slot ⟨a.row, .bottom, a.pos⟩ = some (.occupied l) ∧ s.slot ⟨a.row, .bottom, a.pos + 1⟩ = some (.occupied r)
              ∧ s.findCoil l = some kl ∧ s.findCoil r = some kr ∧ ld.weight ≤ kl.used ∧ ld.weight ≤ kr.used
              ∧ kl.od ≤ kr.od + 150 ∧ kr.od ≤ kl.od + 150)

/-- A slot comes before another in the order of R43: lower row, then bottom before top, then lower position. -/
def slotBefore (a b : SlotAddr) : Prop :=
  a.row < b.row ∨ (a.row = b.row ∧ ((a.tier = .bottom ∧ b.tier = .top) ∨ (a.tier = b.tier ∧ a.pos < b.pos)))

/-- A candidate within the limits of a search (R42), at a cost (R43). -/
def searchable (s : State) (ld : Load) (origin : Cm × Cm) (lim : Limits) (a : SlotAddr) (cost : Nat) : Prop :=
  s.isCandidate ld a = true ∧ a ∉ lim.leaveOut ∧ (∀ r, lim.range = some r → r.1 ≤ a.row ∧ a.row ≤ r.2)
    ∧ ∃ p, s.layout.committed.slotPos a = some p ∧ (∀ i, lim.interval = some i → i.1 ≤ p.1 ∧ p.1 ≤ i.2)
      ∧ cost = (p.1 - origin.1).natAbs + (p.2 - origin.2).natAbs

/-- The AUTO search chooses the candidate of least cost, of those of equal cost the first by row, tier and position, and none exactly when there is
no candidate (R42, R43). -/
def Obligations.AutoSearchLeastCost : Prop :=
  ∀ (s : State) (ld : Load) (origin : Cm × Cm) (lim : Limits), s.layout.committed.rowsOrdered →
    (∀ a, s.autoSlot ld origin lim = some a → ∃ c, searchable s ld origin lim a c
      ∧ ∀ b d, searchable s ld origin lim b d → b ≠ a → c < d ∨ (c = d ∧ slotBefore a b))
    ∧ (s.autoSlot ld origin lim = none ↔ ∀ a c, ¬ searchable s ld origin lim a c)

/-- The fields that enter a coil lie in the ranges of R18 and R26. -/
def coilFieldsOk (body : List Byte) : Prop :=
  millIdOk (fieldBytes body 1 12) ∧ (500 ≤ u16At body 13 ∧ u16At body 13 ≤ 45000) ∧ (800 ≤ u16At body 15 ∧ u16At body 15 ≤ 2500)
    ∧ (600 ≤ u16At body 17 ∧ u16At body 17 ≤ 2200) ∧ u16At body 19 ≤ 4320

/-- The coil that a body enters at a place. -/
def coilEntered (body : List Byte) (loc : Place) (active : Option Nat) : Coil :=
  { id := fieldBytes body 1 12, loc := loc, declared := u16At body 13, measured := none, od := u16At body 15, width := u16At body 17
    thermal := if u16At body 19 = 0 then .cold else .hot (u16At body 19), active := active, visit := none }

/-- A body carries a slot address in range at a position (R4, R207). -/
def carriesSlot (body : List Byte) (pos : Nat) (a : SlotAddr) : Prop :=
  u8At body pos = a.row ∧ u8At body (pos + 1) = tierNum a.tier ∧ u8At body (pos + 2) = a.pos ∧ (1 ≤ a.row ∧ a.row ≤ 40)
    ∧ (1 ≤ a.pos ∧ a.pos ≤ 12)

/-- The lowest empty entry of a table. -/
def lowestEmpty {α : Type} (t : Table α) (e : Nat) : Prop := t.get? e = none ∧ ∀ j < e, (t.get? j).isSome = true

/-- COIL_REGISTER of a new coil into a slot that meets the stack rules enters the record in the lowest empty entry and makes the slot OCCUPIED.
COIL_REMOVE: an uncovered coil in an OCCUPIED slot, with no move and no visit, leaves the table and its slot becomes FREE; a coil elsewhere, with
a move or a visit, is refused with 12 COIL_BUSY, a covered one with 13 COIL_BLOCKED, an unknown mill ID with 6 NO_COIL, each with a detail that no
rule states (notes/assumptions/5.md); nothing else changes (R17, R26, R27, R30). -/
def Obligations.CoilsRegisteredAndRemoved : Prop :=
  (∀ (s : State) (seq : Byte) (body : List Byte) (a : SlotAddr) (e : Nat), s.takes (.coilRegister seq body) → s.bounded →
      coilFieldsOk body → carriesSlot body 21 a → (∀ k ∈ s.coils.vals, k.id ≠ fieldBytes body 1 12) → lowestEmpty s.coils e → e ≤ 1023 →
      s.isCandidate ⟨u16At body 13, u16At body 15, u16At body 17, decide (u16At body 19 ≠ 0)⟩ a = true →
      exec (.coilRegister seq body) s = .next (State.after
        (({ s with
            coils := s.coils.put e (coilEntered body (.slot a) none)
            yard := { s.yard with slots := s.yard.slots.put a.key ⟨a, .occupied (fieldBytes body 1 12)⟩ } } : State).answering 0x30 seq
          (.done (.entry e)))))
    ∧ ∀ (s : State) (seq : Byte) (body : List Byte), s.takes (.coilRemove seq body) → millIdOk (fieldBytes body 1 12) →
      (s.findCoil (fieldBytes body 1 12) = none →
        ∃ d, exec (.coilRemove seq body) s = .next (State.after (s.answering 0x31 seq (.refused .noCoil d))))
      ∧ ∀ k, s.findCoil (fieldBytes body 1 12) = some k →
        (((∀ a, k.loc ≠ .slot a) ∨ k.active ≠ none ∨ k.visit ≠ none) →
          ∃ d, exec (.coilRemove seq body) s = .next (State.after (s.answering 0x31 seq (.refused .coilBusy d))))
        ∧ ∀ a, k.loc = .slot a → k.active = none → k.visit = none →
          (s.covered a = true → ∃ d, exec (.coilRemove seq body) s = .next (State.after (s.answering 0x31 seq (.refused .coilBlocked d))))
          ∧ (s.covered a = false → s.slot a = some (.occupied k.id) →
            exec (.coilRemove seq body) s = .next (State.after
              (({ s with
                  coils := s.coils.filter fun e => e.2.id != fieldBytes body 1 12
                  yard := { s.yard with slots := s.yard.slots.erase a.key } } : State).answering 0x31 seq (.done .plain))))

/-! ### Moves -/

/-- A new move will take this number and this entry of the Move Table (R128, R129). -/
def nextMove (s : State) (n j : Nat) : Prop :=
  n = (if s.moves.last < 65535 then s.moves.last + 1 else 1) ∧ (∀ m ∈ s.moves.table.vals, m.number ≠ n) ∧ n ∉ s.moves.queue
    ∧ lowestEmpty s.moves.table j ∧ j ≤ 63

/-- The new move stands in the queue behind every move of its priority or a higher one (R130 (1)). -/
def queuedBehind (s t : State) (n p : Nat) : Prop :=
  ∃ q1 q2, s.moves.queue = q1 ++ q2 ∧ t.moves.queue = q1 ++ n :: q2 ∧ (∀ i ∈ q1, p ≤ s.priorityOf i)
    ∧ ∀ i, q2.head? = some i → s.priorityOf i < p

/-- A body carries a priority: 0 to 7, or FFH for 5. -/
def carriesPriority (body : List Byte) (pos p : Nat) : Prop := (u8At body pos = p ∧ p ≤ 7) ∨ (u8At body pos = 255 ∧ p = 5)

/-- The Move Table has gained one move, QUEUED, with its MOVE_STATE notice, and the cranes, the claims, the scales and the bays are as before. -/
def gainsMove (s t : State) (j : Nat) (m : Move) : Prop :=
  t.moves.table.get? j = some m ∧ (∀ i, i ≠ j → t.moves.table.get? i = s.moves.table.get? i) ∧ t.moves.last = m.number
    ∧ queuedBehind s t m.number m.priority
    ∧ t.link.notices = (s.link.queueNotice s.clock (.moveState m.number m.kind m.coil .queued none none)).notices
    ∧ t.cranes = s.cranes ∧ t.runway.claims = s.runway.claims ∧ t.weighing = s.weighing ∧ t.bays = s.bays ∧ t.sent = []

/-- COIL_ANNOUNCE of a new coil on an empty saddle for which the AUTO search finds a slot: the reply names the entry, the move and the slot and the
record is entered, in every state; and where no crane is in service to take the move, the saddle holds the coil, the slot is RESERVED_IN and the
STORE move is QUEUED (R27, R28, R29). -/
def Obligations.CoilAnnounced : Prop :=
  ∀ (s : State) (seq : Byte) (body : List Byte) (x : Saddle) (e n j p : Nat) (o : Cm × Cm) (a : SlotAddr),
    s.takes (.coilAnnounce seq body) → s.bounded → coilFieldsOk body → u8At body 21 = saddleNum x → carriesPriority body 22 p →
    (∀ k ∈ s.coils.vals, k.id ≠ fieldBytes body 1 12) → s.yard.onSaddle x = none → lowestEmpty s.coils e → e ≤ 1023 → nextMove s n j →
    s.layout.committed.saddlePos x = some o →
    s.autoSlot ⟨u16At body 13, u16At body 15, u16At body 17, decide (u16At body 19 ≠ 0)⟩ o = some a →
    ∃ t, exec (.coilAnnounce seq body) s = .next t
      ∧ t.link.replies = s.link.replies ++ [⟨0xB2#8, seq, .done (.announced e n a)⟩]
      ∧ (∃ k, t.coils.get? e = some k ∧ k.id = fieldBytes body 1 12 ∧ k.declared = u16At body 13)
      ∧ (s.craneless →
          t.coils.get? e = some (coilEntered body (.saddle x) (some n)) ∧ (∀ i, i ≠ e → t.coils.get? i = s.coils.get? i)
          ∧ t.yard.onSaddle x = some (fieldBytes body 1 12) ∧ t.slot a = some (.reservedIn n)
          ∧ gainsMove s t j
            { number := n, kind := .store, origin := .link, coil := some (fieldBytes body 1 12), source := some (.saddle x)
              dest := .slot a, priority := p, created := s.clock })

/-- The state with a slot given a state that is not FREE. -/
def withSlot (s : State) (a : SlotAddr) (st : SlotState) : State :=
  { s with yard := { s.yard with slots := s.yard.slots.put a.key ⟨a, st⟩ } }

/-- A body asks for an AUTO destination at a position, in a row range or in any row (R42, R139). -/
def asksAuto (body : List Byte) (pos : Nat) (lim : Limits) : Prop :=
  u8At body pos = 6 ∧ lim.interval = none ∧ lim.leaveOut = []
    ∧ ((u8At body (pos + 1) = 0 ∧ u8At body (pos + 2) = 0 ∧ lim.range = none)
      ∨ ((1 ≤ u8At body (pos + 1) ∧ u8At body (pos + 1) ≤ u8At body (pos + 2) ∧ u8At body (pos + 2) ≤ 40)
        ∧ lim.range = some (u8At body (pos + 1), u8At body (pos + 2))))

/-- A body chooses a slot: a slot of either tier that it names and that is a candidate in the state, or the one that its AUTO search finds from a
place in the state (R41, R42, R43). -/
def chosenSlot (s : State) (ld : Load) (origin : Option (Cm × Cm)) (body : List Byte) (pos : Nat) (a : SlotAddr) : Prop :=
  (u8At body pos = 1 ∧ carriesSlot body (pos + 1) a ∧ s.isCandidate ld a = true)
    ∨ ∃ lim o, asksAuto body pos lim ∧ origin = some o ∧ s.autoSlot ld o lim = some a

/-- The coil of a request lies OCCUPIED in a slot of a row without protection, with no move and no visit. -/
def movable (s : State) (k : Coil) (q : SlotAddr) : Prop :=
  s.findCoil k.id = some k ∧ k.loc = .slot q ∧ q.pos ≤ 12 ∧ s.slot q = some (.occupied k.id) ∧ k.active = none ∧ k.visit = none
    ∧ q.row ∉ s.yard.protect

/-- Two new moves stand in the queue, one behind the other, behind every move of their priority or a higher one (R130 (1)). -/
def twoQueuedBehind (s t : State) (n1 n2 p : Nat) : Prop :=
  ∃ q1 q2, s.moves.queue = q1 ++ q2 ∧ t.moves.queue = q1 ++ n1 :: n2 :: q2 ∧ (∀ i ∈ q1, p ≤ s.priorityOf i)
    ∧ ∀ i, q2.head? = some i → s.priorityOf i < p

/-- MOVE_REQUEST RELOCATE of a coil in a slot, to a slot of either tier named or found by an AUTO search, judged with the source RESERVED_OUT: the
reply names the move, the slot and the dig-outs, in every state. Of an uncovered coil there is no dig-out; where no crane is in service, the source
is RESERVED_OUT, the destination RESERVED_IN, the coil names the move and the move is QUEUED; an AUTO search that finds no slot refuses the
request. Of a coil under one OCCUPIED top slot the covering coil has a dig-out, numbered first, to the slot that the AUTO search finds for it with
the top slots over the source left out, and the main move waits for it (R24, R37, R40, R42, R44, R47, R48, R49, R139, R140). -/
def Obligations.RelocateRequested : Prop :=
  (∀ (s : State) (seq : Byte) (body : List Byte) (k : Coil) (q : SlotAddr) (n j p : Nat),
    s.takes (.moveRequest seq body) → s.bounded → u8At body 1 = 0 → millIdOk (fieldBytes body 2 12) → k.id = fieldBytes body 2 12 →
    carriesPriority body 19 p → movable s k q → (∀ c ∈ coveringSlots s.layout.committed q, s.slot c = none) → nextMove s n j →
    (∀ a, a.pos ≤ 12 → chosenSlot (withSlot s q (.reservedOut n k.id)) k.load (s.layout.committed.slotPos q) body 15 a →
      ∃ t, exec (.moveRequest seq body) s = .next t
        ∧ t.link.replies = s.link.replies ++ [⟨0xC0#8, seq, .done (.requested n (.slot a) [])⟩]
        ∧ (s.craneless →
            t.slot q = some (.reservedOut n k.id) ∧ t.slot a = some (.reservedIn n) ∧ t.findCoil k.id = some { k with active := some n }
            ∧ gainsMove s t j
              { number := n, kind := .relocate, origin := .link, coil := some k.id, source := some (.slot q), dest := .slot a
                priority := p, created := s.clock }))
    ∧ ∀ lim o, asksAuto body 15 lim → s.layout.committed.slotPos q = some o →
      (withSlot s q (.reservedOut n k.id)).autoSlot k.load o lim = none →
      exec (.moveRequest seq body) s = .next (State.after (s.answering 0x40 seq (.refused .noPlace 0))))
    ∧ ∀ (s : State) (seq : Byte) (body : List Byte) (k d : Coil) (q u a b : SlotAddr) (o : Cm × Cm) (n1 n2 p : Nat),
      s.takes (.moveRequest seq body) → s.bounded → u8At body 1 = 0 → millIdOk (fieldBytes body 2 12) → k.id = fieldBytes body 2 12 →
      carriesPriority body 19 p → movable s k q → u ∈ coveringSlots s.layout.committed q → s.slot u = some (.occupied d.id) →
      (∀ c ∈ coveringSlots s.layout.committed q, c ≠ u → s.slot c = none) → s.findCoil d.id = some d → d.id ≠ k.id →
      s.moves.table.length + 2 ≤ 64 → n1 = (if s.moves.last < 65535 then s.moves.last + 1 else 1) →
      n2 = (if n1 < 65535 then n1 + 1 else 1) →
      (∀ m ∈ s.moves.table.vals, m.number ≠ n1 ∧ m.number ≠ n2) → n1 ∉ s.moves.queue → n2 ∉ s.moves.queue →
      s.layout.committed.slotPos u = some o →
      (withSlot (withSlot s u (.reservedOut n1 d.id)) q (.reservedOut n2 k.id)).autoSlot d.load o
          { leaveOut := coveringSlots s.layout.committed q } = some b → b.pos ≤ 12 → a.pos ≤ 12 →
      chosenSlot (withSlot (withSlot (withSlot s u (.reservedOut n1 d.id)) q (.reservedOut n2 k.id)) b (.reservedIn n1)) k.load
        (s.layout.committed.slotPos q) body 15 a →
      ∃ t, exec (.moveRequest seq body) s = .next t
        ∧ t.link.replies = s.link.replies ++ [⟨0xC0#8, seq, .done (.requested n2 (.slot a) [n1])⟩]
        ∧ (s.craneless →
            t.slot u = some (.reservedOut n1 d.id) ∧ t.slot q = some (.reservedOut n2 k.id) ∧ t.slot b = some (.reservedIn n1)
            ∧ t.slot a = some (.reservedIn n2) ∧ t.findCoil d.id = some { d with active := some n1 }
            ∧ t.findCoil k.id = some { k with active := some n2 }
            ∧ t.findMove n1 = some
              { number := n1, kind := .relocate, origin := .digout, coil := some d.id, source := some (.slot u), dest := .slot b
                priority := p, created := s.clock, digFor := some n2 }
            ∧ t.findMove n2 = some
              { number := n2, kind := .relocate, origin := .link, coil := some k.id, source := some (.slot q), dest := .slot a
                priority := p, waits := [n1], created := s.clock }
            ∧ twoQueuedBehind s t n1 n2 p ∧ t.moves.last = n2
            ∧ t.link.notices = (s.notingAll [.moveState n1 .relocate (some d.id) .queued none none,
                .moveState n2 .relocate (some k.id) .queued none none]).link.notices
            ∧ t.cranes = s.cranes ∧ t.runway.claims = s.runway.claims ∧ t.sent = [])

/-- MOVE_REQUEST SHIFT of a crane with an entry to a position on the runway, and PUT_DOWN of a coil on a hook with no move to a slot of either tier
named or found by an AUTO search from the crane's last reported position: the reply names the move, in every state; and where no crane is in
service the move is QUEUED, the slot of a PUT_DOWN RESERVED_IN; an AUTO search that finds no slot refuses the PUT_DOWN (R42, R139, R141). -/
def Obligations.ShiftAndPutDownRequested : Prop :=
  (∀ (s : State) (seq : Byte) (body : List Byte) (c : CraneId) (n j p : Nat),
    s.takes (.moveRequest seq body) → s.bounded → u8At body 1 = 2 → u8At body 14 = craneNum c → u8At body 15 = 5 →
    carriesPriority body 19 p → s.layout.committed.cranes.get c ≠ none → (u16At body 17 : Int) ≤ s.runwayLength → nextMove s n j →
    ∃ t, exec (.moveRequest seq body) s = .next t
      ∧ t.link.replies = s.link.replies ++ [⟨0xC0#8, seq, .done (.requested n (.runway (u16At body 17)) [])⟩]
      ∧ (s.craneless → t.coils = s.coils ∧ t.yard = s.yard ∧ gainsMove s t j
          { number := n, kind := .shift, origin := .link, coil := none, source := none, dest := .runway (u16At body 17)
            priority := p, created := s.clock, named := some c }))
    ∧ ∀ (s : State) (seq : Byte) (body : List Byte) (k : Coil) (c : CraneId) (n j p : Nat),
      s.takes (.moveRequest seq body) → s.bounded → u8At body 1 = 1 → millIdOk (fieldBytes body 2 12) → carriesPriority body 19 p →
      s.findCoil (fieldBytes body 2 12) = some k → k.loc = .hook c → k.active = none → nextMove s n j →
      (∀ a, chosenSlot s k.load (some (s.craneX c, s.craneY c)) body 15 a →
        ∃ t, exec (.moveRequest seq body) s = .next t
          ∧ t.link.replies = s.link.replies ++ [⟨0xC0#8, seq, .done (.requested n (.slot a) [])⟩]
          ∧ (s.craneless → t.slot a = some (.reservedIn n) ∧ t.findCoil k.id = some { k with active := some n } ∧ gainsMove s t j
              { number := n, kind := .putDown, origin := .link, coil := some k.id, source := some (.hook c), dest := .slot a
                priority := p, created := s.clock }))
      ∧ ∀ lim, asksAuto body 15 lim → s.autoSlot k.load (s.craneX c, s.craneY c) lim = none →
        exec (.moveRequest seq body) s = .next (State.after (s.answering 0x40 seq (.refused .noPlace 0)))

/-- An order is the crane's next: sent to it alone, with the number after its counter, and outstanding (R83, R84). -/
def sendsNext (s t : State) (c : CraneId) (k : OrderKind) : Prop :=
  let n := if (s.cranes.get c).counter < 255 then (s.cranes.get c).counter + 1 else 1
  t.sent = [⟨c, n, k, 0, 0⟩] ∧ (t.cranes.get c).counter = n ∧ ((t.cranes.get c).order.map fun o => (o.num, o.kind)) = some (n, k)

/-- MOVE_HOLD of an ACTIVE move, where nothing else is left to start: the crane is sent ABORT_LOWER in LOWER_GRIP and LOWER_SET, whatever order is
outstanding, another ABORT_LOWER too, and STOP in any other phase, and the move is HELD with cause LINK and its phase kept; while the ABORT_LOWER of
a line drop is outstanding in a lowering phase nothing is sent and BAY_WAIT is kept; a HELD move is answered DONE without a change; a move in another
state, or no move, is refused with a detail that no rule states (notes/assumptions/5.md). MOVE_RESUME of a HELD move with LINK among its causes: with another
cause LINK is removed and the move stays HELD; with LINK alone and its crane OUT it is refused with 20 CRANE_STATE, detail 2; with LINK alone and
its crane IN it is ACTIVE again at the start of its kept phase, as for a kept LOWER_SET at a slot, whose order is sent. That the hold of a move that
has been resumed and granted the lock again, its line-drop ABORT_LOWER still outstanding, keeps BAY_WAIT is the model's reading
(notes/assumptions/11.md) (R84, R104, R105, R106, R142, R143). -/
def Obligations.MovesHeldAndResumed : Prop :=
  (∀ (s : State) (seq : Byte) (body : List Byte), s.takes (.moveHold seq body) →
      (s.findMove (u16At body 1) = none →
        ∃ d, exec (.moveHold seq body) s = .next (State.after (s.answering 0x41 seq (.refused .noMove d))))
      ∧ ∀ m, s.findMove (u16At body 1) = some m →
        (m.state = .held → exec (.moveHold seq body) s = .next (State.after (s.answering 0x41 seq (.done .plain))))
        ∧ (m.state ≠ .held → m.state ≠ .active →
          ∃ d, exec (.moveHold seq body) s = .next (State.after (s.answering 0x41 seq (.refused .moveState d))))
        ∧ (∀ c o, m.state = .active → m.crane = some c → (m.afterAbort = none ∨ m.afterAbort = some .bayWait) → s.quiet →
          (m.phase = some .lowerGrip ∨ m.phase = some .lowerSet) → (s.cranes.get c).order = some o → o.kind = .abortLower → o.lineDrop = true →
          ∃ t k, exec (.moveHold seq body) s = .next t ∧ t.findMove (u16At body 1) = some k ∧ k.state = .held
            ∧ k.causes = { link := true } ∧ k.phase = some .bayWait ∧ k.crane = m.crane ∧ k.source = m.source ∧ k.dest = m.dest
            ∧ t.sent = [] ∧ t.cranes = s.cranes
            ∧ t.link.notices = (s.noting (.moveState m.number m.kind m.coil .held (some .bayWait) (some c))).link.notices
            ∧ t.link.replies = s.link.replies ++ [⟨0xC1#8, seq, .done .plain⟩]
            ∧ t.yard = s.yard ∧ t.coils = s.coils ∧ t.runway.claims = s.runway.claims)
        ∧ ∀ c, m.state = .active → m.crane = some c → m.afterAbort = none → s.quiet →
          (∀ o, (s.cranes.get c).order = some o → o.kind = .abortLower →
            o.lineDrop = false ∧ (m.phase = some .lowerGrip ∨ m.phase = some .lowerSet)) →
          ∃ t k, exec (.moveHold seq body) s = .next t ∧ t.findMove (u16At body 1) = some k ∧ k.state = .held
            ∧ k.causes = { link := true } ∧ k.phase = m.phase ∧ k.crane = m.crane ∧ k.source = m.source ∧ k.dest = m.dest
            ∧ sendsNext s t c (if m.phase = some .lowerGrip ∨ m.phase = some .lowerSet then .abortLower else .stop)
            ∧ t.link.notices = (s.link.queueNotice s.clock (.moveState m.number m.kind m.coil .held m.phase (some c))).notices
            ∧ t.link.replies = s.link.replies ++ [⟨0xC1#8, seq, .done .plain⟩]
            ∧ t.yard = s.yard ∧ t.coils = s.coils ∧ t.runway.claims = s.runway.claims)
    ∧ ∀ (s : State) (seq : Byte) (body : List Byte) (m : Move) (c : CraneId), s.takes (.moveResume seq body) →
      s.findMove (u16At body 1) = some m → m.state = .held → m.causes.link = true → m.crane = some c →
      ((m.causes.crane = true ∨ m.causes.runway = true) →
        exec (.moveResume seq body) s = .next (State.after (({ s with moves := { s.moves with
          table := s.moves.table.mapVals fun k =>
            if k.number = u16At body 1 then { k with causes := { k.causes with link := false } } else k } } : State).answering 0x42 seq
          (.done .plain))))
      ∧ (m.causes = { link := true } → (s.cranes.get c).service = .out →
        exec (.moveResume seq body) s = .next (State.after (s.answering 0x42 seq (.refused .craneState 2))))
      ∧ ∀ a, m.causes = { link := true } → (s.cranes.get c).service ≠ .out → m.phase = some .lowerSet → m.dest = .slot a →
        m.afterAbort = none → (s.cranes.get c).order = none →
        ∃ t, exec (.moveResume seq body) s = .next t
          ∧ t.findMove (u16At body 1) = some { m with state := .active, phase := some .lowerSet, causes := {} }
          ∧ sendsNext s t c .lowerSet
          ∧ t.link.notices = (s.link.queueNotice s.clock (.moveState m.number m.kind m.coil .active (some .lowerSet) (some c))).notices
          ∧ t.link.replies = s.link.replies ++ [⟨0xC2#8, seq, .done .plain⟩]
          ∧ t.yard = s.yard ∧ t.coils = s.coils ∧ t.runway.claims = s.runway.claims

/-- A move from slot to slot whose coil has not been gripped, with both reservations and the active move field of its coil. -/
def ungripped (s : State) (m : Move) (k : Coil) (q a : SlotAddr) : Prop :=
  m.coil = some k.id ∧ m.source = some (.slot q) ∧ m.dest = .slot a ∧ s.findCoil k.id = some k ∧ (∀ c, k.loc ≠ .hook c)
    ∧ k.active = some m.number ∧ q.pos ≤ 12 ∧ a.pos ≤ 12 ∧ s.slot q = some (.reservedOut m.number k.id)
    ∧ s.slot a = some (.reservedIn m.number)

/-- No move waits for a move, and it has no dig-out. -/
def standsAlone (s : State) (n : Nat) : Prop := ∀ w ∈ s.moves.table.vals, n ∉ w.waits ∧ w.digFor ≠ some n

/-- No STOP that replaced a lowering of a move is outstanding at a crane without a status having named it (check 5 of R146). -/
def answered (s : State) (c : CraneId) (n : Nat) : Prop :=
  ∀ o r, (s.cranes.get c).order = some o → o.kind = .stop → o.named = false → o.replaced = some r → r.use = .phase n →
    r.kind ≠ .lowerGrip ∧ r.kind ≠ .lowerSet

/-- The move has left the table, its source is OCCUPIED again, its destination FREE, and its coil names no move (R39, R147 (1), (2), (4)). -/
def released (t : State) (m : Move) (k : Coil) (q a : SlotAddr) : Prop :=
  t.slot q = some (.occupied k.id) ∧ t.slot a = none ∧ t.findCoil k.id = some { k with active := none } ∧ t.findMove m.number = none

/-- The MOVE_STATE notice of a cancelled move. -/
def cancelledNotice (m : Move) : NoticeBody := .moveState m.number m.kind m.coil .cancelled none none

/-- The other moves, the runway claims and the table of slots but for the two are out of reach of a cancellation that frees no crane: those moves
stay, no dig-outs of the moves that go any more, and the queue only loses the numbers given. -/
def othersStay (s t : State) (gone : List Nat) : Prop :=
  (∀ w ∈ s.moves.table.vals, w.number ∉ gone → { w with digFor := w.digFor.filter fun n => !gone.contains n } ∈ t.moves.table.vals)
    ∧ t.moves.queue = s.moves.queue.filter (fun i => !gone.contains i) ∧ t.runway.claims = s.runway.claims

/-- MOVE_CANCEL of a move from slot to slot that no move waits for: its source is OCCUPIED again, its destination FREE, its coil names no move, and it
leaves the Move Table with its CANCELLED notice. QUEUED, it leaves the queue; PARKED, where no crane is left to take its stack top, it leaves its
crane's stack and the others keep their places; ACTIVE before its grip, its request is withdrawn and its crane is sent ABORT_LOWER in LOWER_GRIP and
else STOP; HELD, no order is sent; the crane whose current move it was has none then, and its claim is kept. A QUEUED main move is followed by its
dig-outs that are QUEUED, each released and cancelled in the same way, in ascending number; a dig-out that is not QUEUED stays as an ordinary move.
That a dig-out that was assigned and is QUEUED again is cancelled too is the model's reading (notes/assumptions/55.md) (R39, R51, R84, R104, R146,
R147). -/
def Obligations.MovesCancelled : Prop :=
  (∀ (s : State) (seq : Byte) (body : List Byte) (m : Move) (k : Coil) (q a : SlotAddr), s.takes (.moveCancel seq body) →
    s.findMove (u16At body 1) = some m → m.fault = none → ungripped s m k q a → standsAlone s m.number →
    (m.state = .queued → m.crane = none →
      ∃ t, exec (.moveCancel seq body) s = .next t ∧ released t m k q a ∧ othersStay s t [m.number] ∧ t.cranes = s.cranes ∧ t.sent = []
        ∧ t.link.notices = (s.noting (cancelledNotice m)).link.notices
        ∧ t.link.replies = s.link.replies ++ [⟨0xC3#8, seq, .done .plain⟩])
    ∧ ∀ c, m.crane = some c → answered s c m.number →
      (∀ i, m.state = .parked → (s.cranes.get c).current = some i → i ≠ m.number → (∀ d, s.mayPop d = false) →
        ∃ t, exec (.moveCancel seq body) s = .next t ∧ released t m k q a ∧ othersStay s t [m.number] ∧ t.sent = []
          ∧ t.cranes = s.cranes.set c { s.cranes.get c with park := (s.cranes.get c).park.filter (fun n => n != m.number) }
          ∧ t.link.notices = (s.noting (cancelledNotice m)).link.notices
          ∧ t.link.replies = s.link.replies ++ [⟨0xC3#8, seq, .done .plain⟩])
      ∧ (m.state = .active → (m.phase = some .claimSrc ∨ m.phase = some .travelSrc ∨ m.phase = some .lowerGrip) →
        (s.cranes.get c).current = some m.number → (∀ d x, s.runway.waits.get d = some x → d = c ∧ x.move = m.number) →
        (∀ b, (s.bays.get b).waiting = []) → (∀ d, (s.cranes.get d).park = []) → s.moves.queue = [] →
        (∀ o, (s.cranes.get c).order = some o → o.kind = .abortLower → m.phase = some .lowerGrip) →
        ∃ t, exec (.moveCancel seq body) s = .next t ∧ released t m k q a ∧ (t.cranes.get c).current = none
          ∧ sendsNext s t c (if m.phase = some .lowerGrip then .abortLower else .stop) ∧ t.runway.waits = .all none
          ∧ t.runway.claims = s.runway.claims ∧ (∀ d, d ≠ c → t.cranes.get d = s.cranes.get d)
          ∧ t.link.notices = (s.noting (cancelledNotice m)).link.notices
          ∧ t.link.replies = s.link.replies ++ [⟨0xC3#8, seq, .done .plain⟩])
      ∧ (m.state = .held → (s.cranes.get c).current = some m.number → s.quiet →
        ∃ t, exec (.moveCancel seq body) s = .next t ∧ released t m k q a ∧ t.sent = []
          ∧ t.cranes = s.cranes.set c { s.cranes.get c with current := none } ∧ t.runway.claims = s.runway.claims
          ∧ t.link.notices = (s.noting (cancelledNotice m)).link.notices
          ∧ t.link.replies = s.link.replies ++ [⟨0xC3#8, seq, .done .plain⟩]))
    ∧ ∀ (s : State) (seq : Byte) (body : List Byte) (m : Move) (k : Coil) (q a : SlotAddr) (digs : List Move), s.takes (.moveCancel seq body) →
      s.findMove (u16At body 1) = some m → m.state = .queued → m.crane = none → m.fault = none → ungripped s m k q a →
      (∀ w ∈ s.moves.table.vals, m.number ∉ w.waits) → (s.moves.table.vals.map (·.number)).Nodup →
      (∀ d, d ∈ digs ↔ d ∈ s.moves.table.vals ∧ d.digFor = some m.number ∧ d.state = .queued) →
      digs.Pairwise (fun d e => d.number < e.number) →
      (∀ d ∈ digs, d.crane = none ∧ d.fault = none ∧ (∃ h u b, ungripped s d h u b)
        ∧ ∀ w ∈ s.moves.table.vals, (d.number ∈ w.waits → w.number = m.number) ∧ w.digFor ≠ some d.number) →
      ∃ t, exec (.moveCancel seq body) s = .next t ∧ released t m k q a
        ∧ (∀ d ∈ digs, ∀ h u b, ungripped s d h u b → released t d h u b)
        ∧ othersStay s t (m.number :: digs.map (·.number)) ∧ t.cranes = s.cranes ∧ t.sent = []
        ∧ t.link.notices = (s.notingAll (cancelledNotice m :: digs.map cancelledNotice)).link.notices
        ∧ t.link.replies = s.link.replies ++ [⟨0xC3#8, seq, .done .plain⟩]

/-- The state with a slot made FREE. -/
def withFree (s : State) (a : SlotAddr) : State := { s with yard := { s.yard with slots := s.yard.slots.erase a.key } }

/-- MOVE_REDIRECT of a HELD or FAULTED move with a coil and a slot destination to a slot of either tier, named or found by an AUTO search from the
coil's place, judged with the old slot FREE: the old slot is FREE, the new one RESERVED_IN, and a kept CLAIM_DEST, TRAVEL_DEST or LOWER_SET becomes
CLAIM_DEST; an AUTO search that finds no slot refuses it. That an AUTO search passes over the move's own old slot when its row has been protected
since, and refuses where no other slot fits, is the model's reading (notes/assumptions/47.md) (R42, R46, R144, R145). -/
def Obligations.MoveRedirected : Prop :=
  ∀ (s : State) (seq : Byte) (body : List Byte) (m : Move) (k : Coil) (b : SlotAddr), s.takes (.moveRedirect seq body) →
    b.pos ≤ 12 → s.findMove (u16At body 1) = some m → (m.state = .held ∨ m.state = .faulted) → m.kind ≠ .shift →
    s.moveCoil m = some k → m.dest = .slot b → s.slot b = some (.reservedIn m.number) →
    (∀ a, a.pos ≤ 12 → chosenSlot (withFree s b) k.load (s.placePos k.loc) body 3 a →
      ∃ t ph, exec (.moveRedirect seq body) s = .next t ∧ (a ≠ b → t.slot b = none) ∧ t.slot a = some (.reservedIn m.number)
        ∧ t.findMove m.number = some { m with dest := .slot a, phase := ph }
        ∧ ((m.phase = some .claimDest ∨ m.phase = some .travelDest ∨ m.phase = some .lowerSet) → ph = some .claimDest)
        ∧ ((m.phase = some .lowerGrip ∨ m.phase = some .hoist ∨ m.phase = some .weigh ∨ m.phase = some .claimSrc
            ∨ m.phase = some .travelSrc) → ph = m.phase)
        ∧ t.link.replies = s.link.replies ++ [⟨0xC4#8, seq, .done (.redirected (.slot a))⟩]
        ∧ t.link.notices = s.link.notices ∧ t.coils = s.coils ∧ t.cranes = s.cranes ∧ t.sent = [])
    ∧ ∀ lim o, asksAuto body 3 lim → s.placePos k.loc = some o → (withFree s b).autoSlot k.load o lim = none →
      exec (.moveRedirect seq body) s = .next (State.after (s.answering 0x44 seq (.refused .noPlace 0)))

/-! ### Rows, fences, cranes, faults -/

/-- ROW_PROTECT of a row with an entry sets or clears the flag of that row alone; a row with no entry is refused with 8 NO_SUCH_SLOT. FENCE_ADD gives
the fence the lowest unused number, PENDING exactly when it touches the claim of a crane and else ACTIVE, or is refused with 28 FENCE_FULL when
all four are in use; FENCE_REMOVE, with no request waiting, removes the fence of its number, in use or not; nothing else changes, and the two
refusals have details that no rule states (R45, R108, R121, R123, notes/assumptions/5.md). -/
def Obligations.RowsAndFencesSet : Prop :=
  (∀ (s : State) (seq : Byte) (body : List Byte), s.takes (.rowProtect seq body) → (1 ≤ u8At body 1 ∧ u8At body 1 ≤ 40) → u8At body 2 ≤ 1 →
      (s.layout.committed.rows.get? (u8At body 1) = none →
        ∃ d, exec (.rowProtect seq body) s = .next (State.after (s.answering 0x50 seq (.refused .noSuchSlot d))))
      ∧ (s.layout.committed.rows.get? (u8At body 1) ≠ none →
        ∃ l : List Nat, (∀ r, r ∈ l ↔ if r = u8At body 1 then u8At body 2 = 0 else r ∈ s.yard.protect)
          ∧ exec (.rowProtect seq body) s = .next (State.after
            (({ s with yard := { s.yard with protect := l } } : State).answering 0x50 seq (.done .plain)))))
    ∧ (∀ (s : State) (seq : Byte) (body : List Byte) (z : RunwaySize), s.takes (.fenceAdd seq body) → s.fencesOrdered →
      s.layout.committed.size = some z → u16At body 1 ≤ u16At body 3 → u16At body 3 ≤ z.length →
      (∀ (n : Nat) (st : FenceState), 1 ≤ n → n ≤ 4 → s.runway.fences.get? n = none →
        (∀ j, 1 ≤ j → j < n → s.runway.fences.get? j ≠ none) →
        (st = .pending ↔ ∃ c k, s.runway.claims.get c = some k ∧ (u16At body 1 : Int) ≤ k.hi ∧ k.lo ≤ u16At body 3) →
        exec (.fenceAdd seq body) s = .next (State.after
          (({ s with runway := { s.runway with fences := s.runway.fences.put n ⟨u16At body 1, u16At body 3, st⟩ } } : State).answering
            0x51 seq (.done (.fence n st)))))
      ∧ ((∀ n, 1 ≤ n → n ≤ 4 → s.runway.fences.get? n ≠ none) →
        ∃ d, exec (.fenceAdd seq body) s = .next (State.after (s.answering 0x51 seq (.refused .fenceFull d)))))
      ∧ ∀ (s : State) (seq : Byte) (body : List Byte), s.takes (.fenceRemove seq body) → s.noWaits → (1 ≤ u8At body 1 ∧ u8At body 1 ≤ 4) →
        exec (.fenceRemove seq body) s = .next (State.after
          (({ s with runway := { s.runway with fences := s.runway.fences.erase (u8At body 1) } } : State).answering 0x52 seq (.done .plain)))

/-- The claims of the other cranes below a number lie wholly beside a claim, each on its own side (R94 check 5, R110 (5)). -/
def claimsBeside (s : State) (c : CraneId) (lo hi : Cm) (below : Nat) : Prop :=
  ∀ j k, j ≠ c → craneNum j < below → s.runway.claims.get j = some k →
    (craneNum j < craneNum c → k.hi < lo) ∧ (craneNum c < craneNum j → hi < k.lo)

/-- CRANE_REINSTATE: a crane with no entry, not OUT, or with an open fault is refused with 20 CRANE_STATE, detail 1, 2, 3, and one that no status has
reached within T_r with detail 4; one whose stationary claim meets the claim of another crane, or has it on the wrong side, with 21 CLAIM_OVERLAP and
that crane's number, and one whose stationary claim meets a PENDING or ACTIVE fence with 10 + its number: that the lowest crane is named, before any
fence, and of the fences the lowest, is the model's reading (notes/assumptions/9.md). A crane that passes them, with an empty hook, no move and no
fence, is IN with that claim and its CRANE_STATE notice; that a claim wholly beyond a runway end keeps its bounds as the formulas give them is the
model's choice (notes/assumptions/38.md) (R94, R95, R109 (1), R110 (5)). -/
def Obligations.CraneReinstated : Prop :=
  ∀ (s : State) (seq : Byte) (body : List Byte) (c : CraneId), s.takes (.craneReinstate seq body) → u8At body 1 = craneNum c →
    (s.layout.committed.cranes.get c = none →
      exec (.craneReinstate seq body) s = .next (State.after (s.answering 0x60 seq (.refused .craneState 1))))
    ∧ ∀ e, s.layout.committed.cranes.get c = some e →
      ((s.cranes.get c).service ≠ .out →
        exec (.craneReinstate seq body) s = .next (State.after (s.answering 0x60 seq (.refused .craneState 2))))
      ∧ ((s.cranes.get c).service = .out → (s.cranes.get c).fault ≠ none →
        exec (.craneReinstate seq body) s = .next (State.after (s.answering 0x60 seq (.refused .craneState 3))))
      ∧ ((s.cranes.get c).service = .out → (s.cranes.get c).fault = none → ((s.cranes.get c).fresh = false ∨ (s.cranes.get c).last = none) →
        exec (.craneReinstate seq body) s = .next (State.after (s.answering 0x60 seq (.refused .craneState 4))))
      ∧ ∀ (st : Status) (time : Nat) (z : RunwaySize) (lo hi : Cm), (s.cranes.get c).service = .out → (s.cranes.get c).fault = none →
        (s.cranes.get c).fresh = true → (s.cranes.get c).last = some (st, time) → s.layout.committed.size = some z →
        lo = max 0 ((st.x : Int) - e.h - s.layout.committed.margin) → hi = min (z.length : Int) (st.x + e.h + s.layout.committed.margin) →
        (∀ j k, j ≠ c → s.runway.claims.get j = some k → claimsBeside s c lo hi (craneNum j) →
          ((craneNum j < craneNum c ∧ lo ≤ k.hi) ∨ (craneNum c < craneNum j ∧ k.lo ≤ hi)) →
          exec (.craneReinstate seq body) s = .next (State.after (s.answering 0x60 seq (.refused .claimOverlap (BitVec.ofNat 8 (craneNum j))))))
        ∧ (claimsBeside s c lo hi 5 →
          (∀ n f, s.fencesOrdered → s.runway.fences.get? n = some f → (f.lo : Int) ≤ hi → lo ≤ f.hi →
            (∀ i g, i < n → s.runway.fences.get? i = some g → (g.hi : Int) < lo ∨ hi < g.lo) →
            exec (.craneReinstate seq body) s = .next (State.after (s.answering 0x60 seq (.refused .claimOverlap (BitVec.ofNat 8 (10 + n))))))
          ∧ ((s.cranes.get c).current = none → s.hookCoil c = none → s.runway.fences = [] → s.quiet →
            exec (.craneReinstate seq body) s = .next (State.after
              ((({ s with
                  cranes := s.cranes.set c { s.cranes.get c with service := .inService }
                  runway := { s.runway with claims := s.runway.claims.set c (some ⟨lo, hi, .stationary⟩) } } : State).noting
                (.craneState c .inService .reinstate)).answering 0x60 seq (.done .plain)))))

/-- Moves stand together in the queue, in their order, ahead of every move of their priority (R130 (2)). -/
def returnedAhead (s t : State) (l : List Nat) (p : Nat) : Prop :=
  ∃ q1 q2, s.moves.queue = q1 ++ q2 ∧ t.moves.queue = q1 ++ l ++ q2 ∧ (∀ i ∈ q1, p < s.priorityOf i)
    ∧ ∀ i, q2.head? = some i → s.priorityOf i ≤ p

/-- A HELD move that a REASSIGN returns: its coil on no hook, and no STOP that replaced its LOWER_GRIP unanswered (R187 (1)). -/
def returnable (s : State) (c : CraneId) (m : Move) : Prop :=
  m.state = .held ∧ (∀ k d, s.moveCoil m = some k → k.loc ≠ .hook d)
    ∧ ∀ o r, (s.cranes.get c).order = some o → o.kind = .stop → o.named = false → o.replaced = some r → r.use = .phase m.number →
      r.kind ≠ .lowerGrip

/-- FAULT_CLEAR CLEAR of a crane with no current move closes its fault part and clears its claim latch and its overload and signal latches; a current
move HELD with its coil on a hook stays, its cause CRANE replaced by LINK, and so at a REASSIGN with an empty stack, after which nothing is
dispatched, by the model's reading (notes/assumptions/45.md). REASSIGN, where no crane is in
service, gives the current move that may be returned and then the parked ones, the top first, all of one priority, back to the queue, QUEUED, ahead of
their priority, and leaves the crane OUT with no move. CLEAR of the runway, where no claim, fence, wait, stack or move stands, closes the fault part,
ends the freeze and clears the separation latches. RETRY of a move with held causes makes it HELD with them; with none it is refused with 20
CRANE_STATE, detail 2, while its crane is OUT, and else the move is ACTIVE again at its faulted phase, as for a LOWER_SET at a slot, whose order is sent;
out of RUN it is refused with 1 BAD_MODE, detail 1. CANCEL is refused in SETUP with 1 BAD_MODE, detail 1, then while a move waits for it with 18
MOVE_STATE, detail 1, then with its coil on a hook with 15 COIL_ON_HOOK; else the move is released and CANCELLED as a HELD one, without an order. Each
has its FAULT_CLEARED notice first. Of the coordinator it is refused with 25 FAULT_NONE and a detail that no rule states (R62, R106, R126, R130, R183,
R184, R185, R186, R187, R188, notes/assumptions/5.md). -/
def Obligations.FaultsCleared : Prop :=
  ∀ (s : State) (seq : Byte) (body : List Byte), s.takes (.faultClear seq body) →
    (∀ c e f, u8At body 1 = 1 → u16At body 2 = craneNum c → u8At body 4 = 2 → s.layout.committed.cranes.get c = some e →
      (s.cranes.get c).fault = some f → (s.cranes.get c).current = none →
      exec (.faultClear seq body) s = .next (State.after
        ((({ s with
            cranes := s.cranes.set c { s.cranes.get c with fault := none, claimLatch := false }
            weighing := { s.weighing with cranes := (
              s.weighing.cranes.set c { s.weighing.cranes.get c with overload := false, signal := false }) } } : State).noting
          (.faultCleared (.crane c) f.cls f.code f.detail .clear)).answering 0x61 seq (.done .plain))))
    ∧ (∀ f, u8At body 1 = 2 → u16At body 2 = 0 → u8At body 4 = 2 → s.runway.fault = some f → s.quiet → s.moves.table = [] →
      s.runway.claims = .all none → s.runway.fences = [] →
      exec (.faultClear seq body) s = .next (State.after
        ((({ s with runway := { s.runway with fault := none, frozen := false, sepLatches := [] } } : State).noting
          (.faultCleared .runway f.cls f.code f.detail .clear)).answering 0x61 seq (.done .plain))))
    ∧ (∀ m f, u8At body 1 = 0 → u16At body 2 = m.number → m.number ≠ 0 → u8At body 4 = 0 → s.link.mode = .run →
      s.findMove m.number = some m → m.fault = some f → f.held ≠ {} →
      ∃ t, exec (.faultClear seq body) s = .next t
        ∧ t.findMove m.number = some { m with fault := none, state := .held, causes := f.held }
        ∧ t.link.notices = (s.notingAll
          [.faultCleared (.move m.number) f.cls f.code f.detail .retry,
            .moveState m.number m.kind m.coil .held m.phase m.crane]).link.notices
        ∧ t.link.replies = s.link.replies ++ [⟨0xE1#8, seq, .done .plain⟩]
        ∧ t.yard = s.yard ∧ t.coils = s.coils ∧ t.cranes = s.cranes ∧ t.runway.claims = s.runway.claims ∧ t.sent = [])
    ∧ (∀ m f, u8At body 1 = 0 → u16At body 2 = m.number → m.number ≠ 0 → s.findMove m.number = some m → m.fault = some f →
      (u8At body 4 = 0 → s.link.mode ≠ .run →
        exec (.faultClear seq body) s = .next (State.after (s.answering 0x61 seq (.refused .badMode 1))))
      ∧ (∀ c, u8At body 4 = 0 → s.link.mode = .run → f.held = {} → m.crane = some c →
        ((s.cranes.get c).service = .out →
          exec (.faultClear seq body) s = .next (State.after (s.answering 0x61 seq (.refused .craneState 2))))
        ∧ ∀ a, (s.cranes.get c).service ≠ .out → m.phase = some .lowerSet → m.dest = .slot a → m.afterAbort = none →
          (s.cranes.get c).order = none →
          ∃ t, exec (.faultClear seq body) s = .next t
            ∧ t.findMove m.number = some { m with fault := none, state := .active, phase := some .lowerSet, causes := {} }
            ∧ sendsNext s t c .lowerSet
            ∧ t.weighing.cranes.get c = { s.weighing.cranes.get c with unexpected := false }
            ∧ t.link.notices = (s.notingAll [.faultCleared (.move m.number) f.cls f.code f.detail .retry,
                .moveState m.number m.kind m.coil .active (some .lowerSet) (some c)]).link.notices
            ∧ t.link.replies = s.link.replies ++ [⟨0xE1#8, seq, .done .plain⟩]
            ∧ t.yard = s.yard ∧ t.coils = s.coils ∧ t.runway.claims = s.runway.claims)
      ∧ (u8At body 4 = 1 → s.link.mode = .setup →
        exec (.faultClear seq body) s = .next (State.after (s.answering 0x61 seq (.refused .badMode 1))))
      ∧ (u8At body 4 = 1 → s.link.mode ≠ .setup →
        ((∃ w ∈ s.moves.table.vals, m.number ∈ w.waits) →
          exec (.faultClear seq body) s = .next (State.after (s.answering 0x61 seq (.refused .moveState 1))))
        ∧ ((∀ w ∈ s.moves.table.vals, m.number ∉ w.waits) → (∃ k d, s.moveCoil m = some k ∧ k.loc = .hook d) → m.kind ≠ .putDown →
          exec (.faultClear seq body) s = .next (State.after (s.answering 0x61 seq (.refused .coilOnHook 0))))
        ∧ ∀ k q a c, m.state = .faulted → ungripped s m k q a → standsAlone s m.number → m.crane = some c → answered s c m.number →
          (s.cranes.get c).current = some m.number → s.quiet →
          ∃ t, exec (.faultClear seq body) s = .next t ∧ released t m k q a ∧ t.sent = []
            ∧ t.cranes = s.cranes.set c { s.cranes.get c with current := none } ∧ t.runway.claims = s.runway.claims
            ∧ t.link.notices = (s.notingAll [.faultCleared (.move m.number) f.cls f.code f.detail .cancel, cancelledNotice m]).link.notices
            ∧ t.link.replies = s.link.replies ++ [⟨0xE1#8, seq, .done .plain⟩]))
    ∧ (∀ c e f, u8At body 1 = 1 → u16At body 2 = craneNum c → s.layout.committed.cranes.get c = some e → (s.cranes.get c).fault = some f →
      (∀ n m k d, (u8At body 4 = 2 ∨ (u8At body 4 = 3 ∧ (s.cranes.get c).park = [])) → (s.cranes.get c).current = some n →
        s.findMove n = some m → m.state = .held → s.moveCoil m = some k → k.loc = .hook d →
        ∃ t, exec (.faultClear seq body) s = .next t
          ∧ t.findMove n = some { m with causes := { m.causes with crane := false, link := true } }
          ∧ t.cranes = s.cranes.set c { s.cranes.get c with fault := none, claimLatch := false }
          ∧ t.link.notices = (s.noting (.faultCleared (.crane c) f.cls f.code f.detail
              (if u8At body 4 = 2 then .clear else .reassign))).link.notices
          ∧ t.link.replies = s.link.replies ++ [⟨0xE1#8, seq, .done .plain⟩]
          ∧ t.yard = s.yard ∧ t.coils = s.coils ∧ t.runway.claims = s.runway.claims ∧ t.sent = [])
      ∧ ∀ (ms : List Move) (p : Nat), u8At body 4 = 3 → s.craneless → ms ≠ [] → (ms.map (·.number)).Nodup →
        (∀ m ∈ ms, s.findMove m.number = some m ∧ m.priority = p) →
        (((s.cranes.get c).current = none ∧ ms.map (·.number) = (s.cranes.get c).park.reverse)
          ∨ ∃ m rest, ms = m :: rest ∧ (s.cranes.get c).current = some m.number ∧ returnable s c m
            ∧ rest.map (·.number) = (s.cranes.get c).park.reverse) →
        ∃ t, exec (.faultClear seq body) s = .next t
          ∧ (∀ m ∈ ms, t.findMove m.number = some { m with state := .queued, causes := {}, crane := none })
          ∧ returnedAhead s t (ms.map (·.number)) p
          ∧ t.cranes = s.cranes.set c { s.cranes.get c with fault := none, claimLatch := false, current := none, park := [] }
          ∧ t.link.notices = (s.notingAll (.faultCleared (.crane c) f.cls f.code f.detail .reassign
              :: ms.map fun m => .moveState m.number m.kind m.coil .queued m.phase none)).link.notices
          ∧ t.link.replies = s.link.replies ++ [⟨0xE1#8, seq, .done .plain⟩]
          ∧ t.yard = s.yard ∧ t.coils = s.coils ∧ t.runway.claims = s.runway.claims ∧ t.sent = [])
    ∧ (u8At body 1 = 3 → u16At body 2 = 0 → u8At body 4 = 2 →
      ∃ d, exec (.faultClear seq body) s = .next (State.after (s.answering 0x61 seq (.refused .faultNone d))))

/-- Raising a fault: a subject with no open part has the fault opened under its own class and code; one with an open part keeps it, and the fault
goes to the move's crane, the runway or the coordinator as code 00, detail 0, with its origin; a coordinator whose part is open only has it
reported as REPEATED (R176, R177, R178). -/
def Obligations.FaultsEscalate : Prop :=
  ∀ (w : Work) (code detail : Nat),
    (∀ c, (w.cranes.get c).fault = none → ((w.raise (.crane c) code detail).cranes.get c).fault = some ⟨2, code, w.clock, detail, none, {}⟩)
    ∧ (∀ c f, (w.cranes.get c).fault = some f → w.runway.fault = none →
      (w.raise (.crane c) code detail).runway.fault = some ⟨1, 0, w.clock, 0, some ⟨code, detail, .crane c⟩, {}⟩
        ∧ (w.raise (.crane c) code detail).runway.frozen = true ∧ ((w.raise (.crane c) code detail).cranes.get c).fault = some f)
    ∧ (∀ c f g, (w.cranes.get c).fault = some f → w.runway.fault = some g → w.coordFault = none →
      (w.raise (.crane c) code detail).coordFault = some ⟨0, 0, w.clock, 0, some ⟨code, detail, .crane c⟩, {}⟩
        ∧ (w.raise (.crane c) code detail).link.mode = .stopped ∧ (w.raise (.crane c) code detail).runway.fault = some g)
    ∧ (w.runway.fault = none → (w.raise .runway code detail).runway.fault = some ⟨1, code, w.clock, detail, none, {}⟩
        ∧ (w.raise .runway code detail).runway.frozen = true)
    ∧ (∀ g, w.runway.fault = some g → w.coordFault = none →
      (w.raise .runway code detail).coordFault = some ⟨0, 0, w.clock, 0, some ⟨code, detail, .runway⟩, {}⟩
        ∧ (w.raise .runway code detail).link.mode = .stopped)
    ∧ (w.coordFault = none → (w.raise .coordinator code detail).coordFault = some ⟨0, code, w.clock, detail, none, {}⟩
        ∧ (w.raise .coordinator code detail).link.mode = .stopped)
    ∧ (∀ f, w.coordFault = some f →
      w.raise .coordinator code detail = w.notice (.faultOpened .coordinator 0 0 0 (some ⟨code, detail, .coordinator⟩) none true))
    ∧ (∀ n m, w.findMove n = some m → m.fault = none → ∃ k, (w.raise (.move n) code detail).findMove n = some k
        ∧ k.fault = some ⟨3, code, w.clock, detail, none, m.causes⟩ ∧ k.state = .faulted ∧ k.causes = {})
    ∧ (∀ n m f c, w.findMove n = some m → m.fault = some f → m.crane = some c → (w.cranes.get c).fault = none →
      ((w.raise (.move n) code detail).cranes.get c).fault = some ⟨2, 0, w.clock, 0, some ⟨code, detail, .move n⟩, {}⟩
        ∧ ∃ k, (w.raise (.move n) code detail).findMove n = some k ∧ (k.fault.map fun x => (x.cls, x.code)) = some (f.cls, f.code))

/-! ### Trucks -/

/-- The state with the visit of a bay set. -/
def withVisit (s : State) (b : BayId) (v : Option Visit) : State :=
  { s with bays := s.bays.set b { s.bays.get b with visit := v } }

/-- The state with the weighing session of a bay set. -/
def withBaySession (s : State) (b : BayId) (x : Option Session) : State :=
  { s with weighing := { s.weighing with bays := s.weighing.bays.set b { s.weighing.bays.get b with session := x } } }

/-- The fields of a check-in lie in the ranges of R148 and R150: the characters of the truck ID, the trailer length, the tare shares within the
limits, 1 to 4 cradles with rising distances up to the trailer length and their own limits. -/
def checkinFieldsOk (body : List Byte) : Prop :=
  (∀ x ∈ fieldBytes body 2 16, (0x30 ≤ x.toNat ∧ x.toNat ≤ 0x39) ∨ (0x41 ≤ x.toNat ∧ x.toNat ≤ 0x5A) ∨ x.toNat = 0x2D ∨ x.toNat = 0x20)
    ∧ (400 ≤ u16At body 18 ∧ u16At body 18 ≤ 1600)
    ∧ (u16At body 20 ≤ 20000 ∧ u16At body 20 ≤ u16At body 24 ∧ u16At body 20 + u16At body 22 ≤ u16At body 28)
    ∧ (u16At body 22 ≤ 20000 ∧ u16At body 22 ≤ u16At body 26)
    ∧ (1 ≤ u16At body 24 ∧ u16At body 24 ≤ 40000) ∧ (1 ≤ u16At body 26 ∧ u16At body 26 ≤ 40000)
    ∧ (1 ≤ u16At body 28 ∧ u16At body 28 ≤ 60000) ∧ (1 ≤ u8At body 30 ∧ u8At body 30 ≤ 4)
    ∧ ∀ i, i < u8At body 30 →
      u16At body (31 + 6 * i) ≤ u16At body 18 ∧ (∀ j, i = j + 1 → u16At body (31 + 6 * j) < u16At body (31 + 6 * i))
        ∧ (500 ≤ u16At body (33 + 6 * i) ∧ u16At body (33 + 6 * i) ≤ 45000)
        ∧ (800 ≤ u16At body (35 + 6 * i) ∧ u16At body (35 + 6 * i) ≤ 2500)

/-- The visit that a check-in body describes, with its state. -/
def visitEntered (body : List Byte) (st : VisitState) : Visit :=
  { truck := fieldBytes body 2 16, l := u16At body 18
    cradles := (List.range (u8At body 30)).map fun i =>
      { d := u16At body (31 + 6 * i), maxWeight := u16At body (33 + 6 * i), maxOd := u16At body (35 + 6 * i), state := .free }
    tk := u16At body 20, ta := u16At body 22, kMax := u16At body 24, aMax := u16At body 26, gMax := u16At body 28, tare := none
    lastGross := none, plan := [], priority := none, state := st, verification := none }

/-- TRUCK_CHECKIN with every field in range. A bay with no entry refuses it with 22 BAY_STATE, detail 1, and one with a visit with detail 2. While the
bay is not secured the visit is SECURING, and a ZERO session of the bay is abandoned with its notice first; while it is secured the visit goes on to
TARING and its TARE session starts, in SETTLE with its scale READY, and with its scale bad in WAIT_READY with a FAILED notice; each state has its
TRUCK_STATE notice. That the visit has no priority before LOAD_PLAN is the model's choice (notes/assumptions/40.md), and that the ZERO_ABANDONED notice
carries the kind ZERO is its reading (notes/assumptions/37.md) (R64, R68, R75, R78, R148, R150, R151). -/
def Obligations.TruckCheckedIn : Prop :=
  ∀ (s : State) (seq : Byte) (body : List Byte) (b : BayId), s.takes (.truckCheckin seq body) → u8At body 1 = bayNum b → checkinFieldsOk body →
    (s.layout.committed.bays.get b = none →
      exec (.truckCheckin seq body) s = .next (State.after (s.answering 0x70 seq (.refused .bayState 1))))
    ∧ (s.layout.committed.bays.get b ≠ none → (s.bays.get b).visit ≠ none →
      exec (.truckCheckin seq body) s = .next (State.after (s.answering 0x70 seq (.refused .bayState 2))))
    ∧ (s.layout.committed.bays.get b ≠ none → (s.bays.get b).visit = none →
      ((s.bays.get b).inPosition = false ∨ (s.bays.get b).safe = false) →
      ((s.weighing.bays.get b).session = none →
        exec (.truckCheckin seq body) s = .next (State.after
          (((withVisit s b (some (visitEntered body .securing))).noting
            (.truckState b (fieldBytes body 2 16) (some .securing) .checkin none)).answering 0x70 seq (.done .plain))))
      ∧ ∀ x, (s.weighing.bays.get b).session = some x → x.kind = .zero →
        exec (.truckCheckin seq body) s = .next (State.after
          (((withBaySession (withVisit s b (some (visitEntered body .securing))) b none).notingAll
            [.scaleState b (s.weighing.bays.get b).state (some .zero) .zeroAbandoned none,
              .truckState b (fieldBytes body 2 16) (some .securing) .checkin none]).answering 0x70 seq (.done .plain))))
    ∧ (s.layout.committed.bays.get b ≠ none → (s.bays.get b).visit = none → (s.weighing.bays.get b).session = none →
      (s.bays.get b).inPosition = true → (s.bays.get b).safe = true →
      ((s.weighing.bays.get b).state = .ready →
        exec (.truckCheckin seq body) s = .next (State.after
          (((withBaySession (withVisit s b (some (visitEntered body .taring))) b (some { kind := .tare, started := s.clock })).notingAll
            [.truckState b (fieldBytes body 2 16) (some .securing) .checkin none,
              .truckState b (fieldBytes body 2 16) (some .taring) .secured none]).answering 0x70 seq (.done .plain))))
      ∧ (((s.weighing.bays.get b).state = .warmup ∨ (s.weighing.bays.get b).state = .over ∨ (s.weighing.bays.get b).state = .saturated) →
        exec (.truckCheckin seq body) s = .next (State.after
          (((withBaySession (withVisit s b (some (visitEntered body .taring))) b
              (some { kind := .tare, stage := .waitReady, started := s.clock })).notingAll
            [.truckState b (fieldBytes body 2 16) (some .securing) .checkin none,
              .truckState b (fieldBytes body 2 16) (some .taring) .secured none,
              .scaleState b (s.weighing.bays.get b).state (some .tare) .failed none]).answering 0x70 seq (.done .plain)))))

/-- The Move Table has gained one move, the last numbered, standing in the queue behind the moves of its priority. -/
def tableGains (s t : State) (j : Nat) (m : Move) : Prop :=
  t.moves.table.get? j = some m ∧ (∀ i, i ≠ j → t.moves.table.get? i = s.moves.table.get? i) ∧ t.moves.last = m.number
    ∧ queuedBehind s t m.number m.priority

/-- LOAD_PLAN of one uncovered COLD coil to a named empty cradle of a READY visit that fits it and passes the axle check: the reply names the move
and the cradle, in every state; and where no crane is in service, the visit is LOADING with the entry PLANNED, the cradle RESERVED, the source
RESERVED_OUT, the coil names move and bay, and the TO_TRUCK move is QUEUED. A visit that is not READY refuses it with 22 BAY_STATE, detail 3,
and a HOT coil with 14 COIL_HOT and the entry (R153, R154, R156, R157, R159). -/
def Obligations.LoadPlanned : Prop :=
  ∀ (s : State) (seq : Byte) (body : List Byte) (b : BayId) (v : Visit) (c : Coil) (q : SlotAddr) (p : Nat),
    s.takes (.loadPlan seq body) → body.length = 16 → u8At body 1 = bayNum b → carriesPriority body 2 p → u8At body 3 = 1 →
    millIdOk (fieldBytes body 4 12) → (1 ≤ u8At body 16 ∧ u8At body 16 ≤ v.cradles.length) → v.cradles.length ≤ 4 →
    s.layout.committed.bays.get b ≠ none → (s.bays.get b).visit = some v →
    (v.state ≠ .ready → exec (.loadPlan seq body) s = .next (State.after (s.answering 0x71 seq (.refused .bayState 3))))
    ∧ (v.state = .ready → s.findCoil (fieldBytes body 4 12) = some c → c.loc = .slot q → c.active = none → c.visit = none →
      ((∃ r, c.thermal = .hot r) → exec (.loadPlan seq body) s = .next (State.after (s.answering 0x71 seq (.refused .coilHot 1))))
      ∧ ∀ (x : Cradle) (n j : Nat) (a g : Kg) (time : Nat), c.thermal = .cold → s.bounded → q.pos ≤ 12 →
        s.slot q = some (.occupied c.id) → (∀ o ∈ coveringSlots s.layout.committed q, s.slot o = none) → q.row ∉ s.yard.protect →
        nextMove s n j → v.cradles[u8At body 16 - 1]? = some x → (∀ y ∈ v.cradles, y.state = .free) →
        c.od ≤ x.maxOd → c.used ≤ x.maxWeight → v.tare = some (g, time) →
        a = (2 * c.used * x.d + v.l) / (2 * v.l) → v.tk + (c.used - a) ≤ v.kMax → v.ta + a ≤ v.aMax → g + c.used ≤ v.gMax →
        ∃ t, exec (.loadPlan seq body) s = .next t
          ∧ t.link.replies = s.link.replies ++ [⟨0xF1#8, seq, .done (.planned [(n, u8At body 16)] [])⟩]
          ∧ (s.craneless →
            tableGains s t j
              { number := n, kind := .toTruck, origin := .plan, coil := some c.id, source := some (.slot q)
                dest := .cradle b (u8At body 16), priority := p, created := s.clock }
            ∧ t.slot q = some (.reservedOut n c.id) ∧ t.findCoil c.id = some { c with active := some n, visit := some b }
            ∧ (t.bays.get b).visit = some { v with
                cradles := (v.cradles.set (u8At body 16 - 1) { x with state := .reserved n })
                plan := [{ coil := c.id, cradle := u8At body 16, move := n, state := .planned, delta := none }]
                priority := some p, state := .loading }
            ∧ (∀ d, d ≠ b → t.bays.get d = s.bays.get d)
            ∧ t.link.notices = (s.notingAll [.truckState b v.truck (some .loading) .plan none,
                .moveState n .toTruck (some c.id) .queued none none]).link.notices
            ∧ t.cranes = s.cranes ∧ t.runway.claims = s.runway.claims ∧ t.weighing = s.weighing ∧ t.sent = []))

/-- The visit at its departure: it stays, DEPARTING, while IN_POSITION is asserted, and is removed at once otherwise. -/
def departing (s : State) (b : BayId) (v : Visit) : Option Visit :=
  if (s.bays.get b).inPosition then some { v with state := .departing } else none

/-- The notices of a departure. -/
def departNotices (s : State) (b : BayId) (v : Visit) (cause : TruckCause) : List NoticeBody :=
  .truckState b v.truck (some .departing) cause none
    :: (if (s.bays.get b).inPosition then [] else [.truckState b v.truck none .departed none])

/-- TRUCK_RELEASE of a visit VERIFIED or DISCREPANCY: the coils of its LOADED cradles leave the Coil Table, each with its COIL_DISPATCHED notice,
the cradles become FREE and the visit departs; in any other state it is refused with 22 BAY_STATE, detail 3. TRUCK_ABORT of a visit whose plan waits
for no coil and whose lock is free: with no LOADED cradle its scale session is discarded and, where no move is queued, the visit departs and nothing
else changes (that the Dispatcher runs where moves are queued is notes/assumptions/44.md); with one LOADED cradle and a yard slot for its coil,
where no crane is in service, the visit is UNLOADING, the cradle names its picking move and the UNLOAD move of priority 4 is QUEUED with the slot
RESERVED_IN; in UNLOADING and DEPARTING it is refused with 22 BAY_STATE, detail 3 (R32, R171, R172, R173). -/
def Obligations.TrucksReleasedAndAborted : Prop :=
  (∀ (s : State) (seq : Byte) (body : List Byte) (b : BayId) (v : Visit), s.takes (.truckRelease seq body) → u8At body 1 = bayNum b →
      s.layout.committed.bays.get b ≠ none → (s.bays.get b).visit = some v →
      ((v.state ≠ .verified ∧ v.state ≠ .discrepancy) →
        exec (.truckRelease seq body) s = .next (State.after (s.answering 0x72 seq (.refused .bayState 3))))
      ∧ ((v.state = .verified ∨ v.state = .discrepancy) → (v.loadedCradles.map (·.2)).Nodup →
        exec (.truckRelease seq body) s = .next (State.after
          ((({ withVisit s b (departing s b { v with cradles := (v.cradles.map fun x =>
                match x.state with | .loaded _ _ => { x with state := .free } | _ => x) }) with
              coils := s.coils.filter fun e => !((v.loadedCradles.map (·.2)).contains e.2.id) } : State).notingAll
            ((v.loadedCradles.filterMap fun x =>
                (s.findCoil x.2).map fun k => .coilDispatched x.2 b x.1 k.declared k.measured) ++ departNotices s b v .release)).answering
            0x72 seq (.done .plain)))))
    ∧ ∀ (s : State) (seq : Byte) (body : List Byte) (b : BayId) (v : Visit), s.takes (.truckAbort seq body) → s.bounded →
      u8At body 1 = bayNum b → s.layout.committed.bays.get b ≠ none → (s.bays.get b).visit = some v →
      ((v.state = .unloading ∨ v.state = .departing) →
        exec (.truckAbort seq body) s = .next (State.after (s.answering 0x73 seq (.refused .bayState 3))))
      ∧ (v.state ≠ .unloading → v.state ≠ .departing → (s.bays.get b).lock = none →
        (∀ e ∈ v.plan, e.state ≠ .planned ∧ e.state ≠ .moving) →
        (v.loadedCradles = [] →
          (s.moves.queue = [] → exec (.truckAbort seq body) s = .next (State.after
            (((withBaySession (withVisit s b (departing s b v)) b none).notingAll (departNotices s b v .abort)).answering 0x73 seq
              (.done (.unloads [])))))
          ∧ ∃ t, exec (.truckAbort seq body) s = .next t ∧ t.link.replies = s.link.replies ++ [⟨0xF3#8, seq, .done (.unloads [])⟩]
            ∧ (t.weighing.bays.get b).session = none)
        ∧ ∀ (k n j : Nat) (c : Coil) (o : Cm × Cm) (a : SlotAddr), v.loadedCradles = [(k, c.id)] → s.findCoil c.id = some c →
          c.loc = .cradle b k → s.cradlePos b k = some o → s.autoSlot c.load o = some a → nextMove s n j → s.craneless →
          ∃ t, exec (.truckAbort seq body) s = .next t
            ∧ t.link.replies = s.link.replies ++ [⟨0xF3#8, seq, .done (.unloads [n])⟩]
            ∧ tableGains s t j
                { number := n, kind := .unload, origin := .abort, coil := some c.id, source := some (.cradle b k), dest := .slot a
                  priority := 4, created := s.clock }
            ∧ t.slot a = some (.reservedIn n) ∧ t.findCoil c.id = some { c with active := some n }
            ∧ (t.bays.get b).visit = some { v with
                cradles := (v.cradles.mapIdx fun i x => if i + 1 = k then { x with state := .loaded c.id (some n) } else x)
                state := .unloading }
            ∧ (t.weighing.bays.get b).session = none
            ∧ t.link.notices = (s.notingAll [.truckState b v.truck (some .unloading) .abort none,
                .moveState n .unload (some c.id) .queued none none]).link.notices
            ∧ t.cranes = s.cranes ∧ t.runway.claims = s.runway.claims ∧ t.sent = [])

/-- SCALE_ZERO at a bay with an entry, no visit, IN_POSITION deasserted, no session and its scale READY is ACCEPTED and starts a ZERO session; the first
of these that fails gives its refusal (R64, R77). -/
def Obligations.ScaleZeroStarted : Prop :=
  ∀ (s : State) (seq : Byte) (body : List Byte) (b : BayId), s.takes (.scaleZero seq body) → u8At body 1 = bayNum b →
    (s.layout.committed.bays.get b = none →
      exec (.scaleZero seq body) s = .next (State.after (s.answering 0x74 seq (.refused .bayState 1))))
    ∧ (s.layout.committed.bays.get b ≠ none →
      ((s.bays.get b).visit ≠ none →
        exec (.scaleZero seq body) s = .next (State.after (s.answering 0x74 seq (.refused .bayState 2))))
      ∧ ((s.bays.get b).visit = none → (s.bays.get b).inPosition = true →
        exec (.scaleZero seq body) s = .next (State.after (s.answering 0x74 seq (.refused .bayState 3))))
      ∧ ((s.bays.get b).visit = none → (s.bays.get b).inPosition = false → (s.weighing.bays.get b).session ≠ none →
        exec (.scaleZero seq body) s = .next (State.after (s.answering 0x74 seq (.refused .scaleState 1))))
      ∧ ((s.bays.get b).visit = none → (s.bays.get b).inPosition = false → (s.weighing.bays.get b).session = none →
        (s.weighing.bays.get b).state ≠ .ready →
        exec (.scaleZero seq body) s = .next (State.after (s.answering 0x74 seq (.refused .scaleState 2))))
      ∧ ((s.bays.get b).visit = none → (s.bays.get b).inPosition = false → (s.weighing.bays.get b).session = none →
        (s.weighing.bays.get b).state = .ready →
        exec (.scaleZero seq body) s = .next (State.after
          ((withBaySession s b (some { kind := .zero, started := s.clock })).answering 0x74 seq .accepted))))

/-! ### Time -/

/-- The state with every HOT coil one minute cooler. -/
def cooled (s : State) : State :=
  { s with coils := (s.coils.mapVals fun k => { k with thermal :=
      match k.thermal with | .hot r => if r ≤ 1 then .cold else .hot (r - 1) | .cold => .cold }) }

/-- The notices of the coils that this minute makes COLD. -/
def coolingNotices (s : State) : List NoticeBody :=
  s.coils.vals.filterMap fun k =>
    match k.thermal with | .hot r => if r ≤ 1 then some (.coilCooled k.id k.loc) else none | .cold => none

/-- The state with the Yard Clock one second on: after 4,294,967,295 it reads 0. -/
def counted (s : State) : State :=
  { s with clock := if s.clock + 1 < 4294967296 then s.clock + 1 else (s.clock + 1) % 4294967296 }

/-- A second raises the Yard Clock by one, from 4,294,967,295 to 0, and where the counter does not come to a whole multiple of 60 it changes nothing
else. Where it comes to one, the second gives the minute tick: a minute is taken from every HOT coil, one at its last minute becoming COLD with its
notice; when the table check then finds no disagreement, or does not run because the mode is STOPPED, nothing else changes; when it finds one, 0-01
is raised with the item and the mode is STOPPED (R22, R23, R33, R182). It is the model's choice that MINUTE_TICK is that second under its own name
and changes nothing elsewhere, that the clock runs during the start-up check too (notes/assumptions/4.md), and that it stands without supply
(notes/assumptions/7.md). -/
def Obligations.SecondsAndMinutes : Prop :=
  ∀ s : State,
    (s.power = .off → exec .yardClockSecond s = .next s.after ∧ exec .minuteTick s = .next s.after)
    ∧ (s.power ≠ .off → (counted s).clock % 60 ≠ 0 →
      exec .yardClockSecond s = .next (State.after (counted s)) ∧ exec .minuteTick s = .next s.after)
    ∧ (s.power ≠ .off → (counted s).clock % 60 = 0 → ∀ i : Instr, (i = .yardClockSecond ∨ i = .minuteTick) →
      ((s.link.mode = .stopped ∨ (cooled (counted s)).tableFault = none) →
        exec i s = .next (State.after ((cooled (counted s)).notingAll (coolingNotices s))))
      ∧ ∀ item, s.link.mode ≠ .stopped → (cooled (counted s)).tableFault = some item → s.coordFault = none →
        (∀ c, (s.cranes.get c).service ≠ .yielding) →
        ∃ t, exec i s = .next t ∧ t.clock = (counted s).clock ∧ t.link.mode = .stopped
          ∧ t.coordFault = some ⟨0, 1, (counted s).clock, item, none, {}⟩
          ∧ t.coils = (cooled s).coils ∧ t.yard = s.yard ∧ t.bays = s.bays ∧ t.runway.claims = s.runway.claims
          ∧ t.runway.waits = .all none ∧ (∀ c, (t.weighing.cranes.get c).session = none) ∧ (∀ b, (t.weighing.bays.get b).session = none)
          ∧ t.link.notices = ((counted s).notingAll (coolingNotices s ++
            [.faultOpened .coordinator 0 1 item none none false, .modeChange (some s.link.mode) .stopped .fault])).link.notices)

/-- A coil lies at a place. -/
def lies (s : State) (id : MillId) (p : Place) : Prop := ∃ k, s.findCoil id = some k ∧ k.loc = p

/-- A slot is OCCUPIED or RESERVED_OUT with a coil. -/
def slotHolds (st : Option SlotState) (id : MillId) : Prop := st = some (.occupied id) ∨ ∃ n, st = some (.reservedOut n id)

/-- A cradle of a bay's visit is LOADED with a coil. -/
def cradleHolds (s : State) (b : BayId) (k : Nat) (id : MillId) : Prop :=
  ∃ v x p, (s.bays.get b).visit = some v ∧ v.cradle k = some x ∧ x.state = .loaded id p

/-- The place that a coil's record names does not name the coil. -/
def misplaced (s : State) (k : Coil) : Prop :=
  match k.loc with
  | .slot a => ¬(s.layout.committed.slotExists a = true ∧ slotHolds (s.slot a) k.id)
  | .saddle x => s.yard.onSaddle x ≠ some k.id
  | .hook _ => False
  | .cradle b i => ¬ cradleHolds s b i k.id

/-- The move of a number carries a HOT coil. -/
def movesHot (s : State) (n : Nat) : Prop := ∃ m k r, s.findMove n = some m ∧ s.moveCoil m = some k ∧ k.thermal = .hot r

/-- Item `i` of the table of R33 finds a disagreement; item 5 counts a coil that is not in the table (notes/assumptions/21.md). -/
def tableItem (s : State) (i : Nat) : Prop :=
  (i = 1 ∧ ∃ k ∈ s.coils.vals, misplaced s k)
    ∨ (i = 2 ∧ ((∃ e ∈ s.yard.slots.vals, ∃ id, slotHolds (some e.state) id ∧ ¬ lies s id (.slot e.addr))
        ∨ (∃ x id, s.yard.onSaddle x = some id ∧ ¬ lies s id (.saddle x))
        ∨ ∃ b k id, cradleHolds s b k id ∧ ¬ lies s id (.cradle b k)))
    ∨ (i = 3 ∧ ∃ c j l k h, j ≠ l ∧ s.coils.get? j = some k ∧ s.coils.get? l = some h ∧ k.loc = .hook c ∧ h.loc = .hook c)
    ∨ (i = 4 ∧ ∃ k ∈ s.coils.vals, ∃ n, k.active = some n ∧ ∀ m, s.findMove n = some m → m.coil ≠ some k.id)
    ∨ (i = 5 ∧ ∃ m ∈ s.moves.table.vals, ∃ id, m.coil = some id ∧ ∀ k, s.findCoil id = some k → k.active ≠ some m.number)
    ∨ (i = 6 ∧ ((∃ k ∈ s.coils.vals, (∃ r, k.thermal = .hot r) ∧ ((∃ a, k.loc = .slot a ∧ a.tier = .top) ∨ ∃ b j, k.loc = .cradle b j))
        ∨ (∃ e ∈ s.yard.slots.vals, e.addr.tier = .top ∧ ∃ n, e.state = .reservedIn n ∧ movesHot s n)
        ∨ ∃ b v, (s.bays.get b).visit = some v ∧ ∃ x ∈ v.cradles, ∃ n, x.state = .reserved n ∧ movesHot s n))
    ∨ (i = 7 ∧ ∃ e ∈ s.yard.slots.vals, e.addr.tier = .top
        ∧ ((∃ id, s.slot e.addr = some (.occupied id)) ∨ ∃ n, s.slot e.addr = some (.reservedIn n))
        ∧ ¬((∃ l, s.slot ⟨e.addr.row, .bottom, e.addr.pos⟩ = some (.occupied l))
            ∧ ∃ r, s.slot ⟨e.addr.row, .bottom, e.addr.pos + 1⟩ = some (.occupied r)))

/-- The table check answers the first item of R33, in order, that finds a disagreement, and none exactly when no item does; that item 5 counts a move
whose coil is not in the Coil Table is the model's reading (notes/assumptions/21.md). -/
def Obligations.TableCheckFindsFirstItem : Prop :=
  ∀ s : State, s.bounded →
    (∀ i, s.tableFault = some i ↔ tableItem s i ∧ ∀ j < i, ¬ tableItem s j) ∧ (s.tableFault = none ↔ ∀ i, ¬ tableItem s i)

/-! ### Crane links -/

/-- The crane record with a status taken (R86 (1), (6), R93). -/
def tookStatus (r : CraneRec) (st : Status) (time : Nat) : CraneRec :=
  { r with last := some (st, time), timer := true, fresh := true, late := false, seen := true, drive := st.drive }

/-- The net load of a status, from the calibration of the crane's entry (R58, R59). -/
def netOf (e : CraneEntry) (st : Status) : Int :=
  roundAway (roundAway ((st.c1 - e.z1) * e.s1) 65536 + roundAway ((st.c2 - e.z2) * e.s2) 65536) 1000 - e.tare

/-- The cells of a status read a plain load at or under the empty-hook threshold and the rated load: no channel at a limit, nothing
clamped. -/
def emptyReading (s : State) (e : CraneEntry) (st : Status) : Prop :=
  (st.c1 ≠ 8388607 ∧ st.c1 ≠ -8388608) ∧ (st.c2 ≠ 8388607 ∧ st.c2 ≠ -8388608)
    ∧ (-99999 ≤ netOf e st + e.tare ∧ netOf e st + e.tare ≤ 199999)
    ∧ netOf e st ≤ s.layout.committed.tuning.emptyHook ∧ netOf e st ≤ e.swl

/-- The state with a status of an empty hook taken: the crane record as given, the last sample and the three latches of its scale. -/
def tookSample (s : State) (c : CraneId) (r : CraneRec) (n : Kg) : State :=
  { s with
    cranes := s.cranes.set c r
    weighing := { s.weighing with cranes := (s.weighing.cranes.set c { s.weighing.cranes.get c with
      last := some ⟨n, false, false⟩, overload := false, signal := false, unexpected := false }) } }

/-- No other crane has reported. -/
def alone (s : State) (c : CraneId) : Prop := ∀ d, d ≠ c → (s.cranes.get d).last = none

/-- CRANE_STATUS: of a crane with no entry it changes nothing; in STOPPED it sets the last status and the kept drive code, and an order that it does
not name is sent again with its number, an order of a phase too, which is the model's reading of R84 beside R107, where no phase order is sent in
STOPPED (notes/assumptions/36.md); in another mode, of a crane that has no claim, order, move or weighing and shows an empty hook and no drive
fault, it also sets the sample and clears the latches; one that shows the crane outside its widened claim opens 2-04 OUTSIDE_CLAIM with the
position as detail: the crane is OUT and is sent STOP; and one that shows it too near to the one other crane that has reported opens 1-01 SEPARATION
with the lower crane number as detail and sets the latch of the pair, once while the latch stands, and one that shows it far enough clears the latch
(R3, R84, R85, R86, R87, R88, R93, R180, R181). -/
def Obligations.CraneStatusTaken : Prop :=
  ∀ (s : State) (c : CraneId) (st : Status),
    (s.layout.committed.cranes.get c = none → exec (.craneStatus c st) s = .next s.after)
    ∧ ∀ e, s.layout.committed.cranes.get c = some e →
      (s.link.mode = .stopped → (s.cranes.get c).order = none → exec (.craneStatus c st) s = .next (State.after
        { s with cranes := s.cranes.set c (tookStatus (s.cranes.get c) st s.clock) }))
      ∧ (∀ o, s.link.mode = .stopped → (s.cranes.get c).order = some o → o.replaced = none → st.order ≠ o.num →
        exec (.craneStatus c st) s = .next (State.afterSending
          { s with cranes := s.cranes.set c (tookStatus (s.cranes.get c) st s.clock) } [⟨c, o.num, o.kind, o.x, o.y⟩]))
      ∧ (s.link.mode ≠ .stopped → alone s c → (s.cranes.get c).order = none → (s.cranes.get c).current = none →
        (s.weighing.cranes.get c).session = none → emptyReading s e st → st.drive = 0 →
        (s.runway.claims.get c = none → exec (.craneStatus c st) s = .next (State.after
          (tookSample s c (tookStatus (s.cranes.get c) st s.clock) (netOf e st))))
        ∧ ∀ k n, s.runway.claims.get c = some k → (s.cranes.get c).service ≠ .out → (s.cranes.get c).fault = none →
          (s.cranes.get c).claimLatch = false →
          ((st.x : Int) - e.h < k.lo - s.layout.committed.tolerance ∨ k.hi + s.layout.committed.tolerance < (st.x : Int) + e.h) →
          n = (if (s.cranes.get c).counter < 255 then (s.cranes.get c).counter + 1 else 1) →
          exec (.craneStatus c st) s = .next (State.afterSending
            (({ tookSample s c
                  { tookStatus (s.cranes.get c) st s.clock with
                    service := .out, claimLatch := true, fault := some { cls := 2, code := 4, time := s.clock, detail := st.x }
                    counter := n, order := some { num := n, kind := .stop, use := .halt } } (netOf e st) with
                runway := { s.runway with yields := s.runway.yields.set c none } } : State).notingAll
              [.faultOpened (.crane c) 2 4 st.x none none false, .craneState c .out .fault])
            [⟨c, n, .stop, 0, 0⟩]))
      ∧ ∀ (d : CraneId) (ed : CraneEntry) (sd : Status) (time : Nat) (p : CraneId × CraneId) (gap : Int),
        s.link.mode ≠ .stopped → d ≠ c → (s.layout.committed.cranes.get d) = some ed → (s.cranes.get d).last = some (sd, time) →
        (∀ j, j ≠ c → j ≠ d → (s.cranes.get j).last = none) → (s.cranes.get c).order = none → (s.cranes.get c).current = none →
        (s.weighing.cranes.get c).session = none → s.runway.claims.get c = none → emptyReading s e st → st.drive = 0 →
        (p, gap) = (if craneNum c < craneNum d then ((c, d), (sd.x : Int) - ed.h - (st.x + e.h))
          else ((d, c), (st.x : Int) - e.h - (sd.x + ed.h))) →
        (s.layout.committed.sMin ≤ gap → exec (.craneStatus c st) s = .next (State.after
          (let u := tookSample s c (tookStatus (s.cranes.get c) st s.clock) (netOf e st);
            { u with runway := { u.runway with sepLatches := s.runway.sepLatches.filter fun q => q != p } })))
        ∧ (gap < s.layout.committed.sMin → p ∈ s.runway.sepLatches → exec (.craneStatus c st) s = .next (State.after
          (tookSample s c (tookStatus (s.cranes.get c) st s.clock) (netOf e st))))
        ∧ (gap < s.layout.committed.sMin → p ∉ s.runway.sepLatches → s.runway.fault = none →
          (∀ j, (s.cranes.get j).service ≠ .yielding) → s.moves.table = [] →
          ∃ t, exec (.craneStatus c st) s = .next t ∧ t.runway.fault = some ⟨1, 1, s.clock, craneNum p.1, none, {}⟩
            ∧ t.runway.frozen = true ∧ p ∈ t.runway.sepLatches ∧ t.runway.claims = s.runway.claims
            ∧ t.link.notices = (s.noting (.faultOpened .runway 1 1 (craneNum p.1) none none false)).link.notices
            ∧ (∀ o ∈ t.sent, o.kind = .stop)
            ∧ ∀ j, (j = c ∨ (s.cranes.get j).timer = true) → (∀ o, (s.cranes.get j).order = some o → o.kind ≠ .abortLower) →
              ∃ o ∈ t.sent, o.crane = j)

/-- A status that reports the TRAVEL of the present phase of a SHIFT DONE, still, UP and within the tolerance of its target, where nothing else is
left to start: the move finishes DONE and leaves the table, the crane has no order and no move, and its claim shrinks to its stationary claim (R83,
R89, R100, R103, R109 (1), R115). -/
def Obligations.ShiftTravelCompletes : Prop :=
  ∀ (s : State) (c : CraneId) (st : Status) (e : CraneEntry) (z : RunwaySize) (o : Order) (n : Nat) (m : Move) (k : Claim),
    s.layout.committed.cranes.get c = some e → s.layout.committed.size = some z → s.link.mode = .run → s.runway.frozen = false →
    s.quiet → alone s c → s.runway.fences = [] → s.runway.yields.get c = none →
    (s.cranes.get c).service = .inService → (s.cranes.get c).fault = none → (s.cranes.get c).current = some n →
    (s.cranes.get c).order = some o → o.kind = .travel → o.use = .phase n → o.former = false →
    s.findMove n = some m → m.kind = .shift → (∃ x, m.dest = .runway x) → m.coil = none → m.state = .active → m.phase = some .travelDest → m.crane = some c →
    m.fault = none → (s.weighing.cranes.get c).session = none → s.runway.claims.get c = some k →
    st.order = o.num → st.ostate = .done → st.hoist = .up → st.still = true →
    |(st.x : Int) - o.x| ≤ s.layout.committed.tolerance → |(st.y : Int) - o.y| ≤ s.layout.committed.tolerance →
    k.lo ≤ (st.x : Int) - e.h → (st.x : Int) + e.h ≤ k.hi → st.x ≤ z.length → emptyReading s e st → st.drive = 0 →
    ∃ t, exec (.craneStatus c st) s = .next t ∧ t.findMove n = none
      ∧ (∀ w ∈ s.moves.table.vals, w.number ≠ n → ∃ u ∈ t.moves.table.vals, u.number = w.number ∧ u.state = w.state)
      ∧ (t.cranes.get c).order = none ∧ (t.cranes.get c).current = none ∧ (t.cranes.get c).last = some (st, s.clock)
      ∧ t.runway.claims.get c = some
          { lo := max k.lo (max 0 ((st.x : Int) - e.h - s.layout.committed.margin))
            hi := min k.hi (min (z.length : Int) (st.x + e.h + s.layout.committed.margin)), kind := .stationary }
      ∧ t.link.notices = (s.notingAll [.moveState n .shift none .done none none]).link.notices
      ∧ t.sent = [] ∧ t.coils = s.coils ∧ t.yard = s.yard

/-- A grip takes the coil of a move to the hook and frees its slot or saddle; a set takes it to the slot, which becomes OCCUPIED, or to the cradle,
which becomes LOADED; no other coil changes (R19, R31, R37, R103). -/
def Obligations.GripAndSetMoveTheCoil : Prop :=
  ∀ (w : Work) (c : CraneId) (m : Move) (k : Coil), m.coil = some k.id → w.findCoil k.id = some k →
    (∀ a, m.source = some (.slot a) → w.slot a = some (.reservedOut m.number k.id) →
      (w.gripDone c m).findCoil k.id = some { k with loc := .hook c } ∧ (w.gripDone c m).slot a = none)
    ∧ (∀ x, m.source = some (.saddle x) → w.yard.onSaddle x = some k.id →
      (w.gripDone c m).findCoil k.id = some { k with loc := .hook c } ∧ (w.gripDone c m).yard.onSaddle x = none)
    ∧ (∀ a, w.slot a = some (.reservedIn m.number) →
      (w.setAtSlot m.number m k.id a).findCoil k.id = some { k with loc := .slot a, visit := none }
        ∧ (w.setAtSlot m.number m k.id a).slot a = some (.occupied k.id))
    ∧ (∀ b i v x, (w.bays.get b).visit = some v → v.cradle i = some x →
      (w.setAtCradle m.number k.id b i).1.findCoil k.id = some { k with loc := .cradle b i }
        ∧ cradleHolds (w.setAtCradle m.number k.id b i).1.toState b i k.id)
    ∧ ∀ id, id ≠ k.id → (w.gripDone c m).findCoil id = w.findCoil id
        ∧ (∀ a, (w.setAtSlot m.number m k.id a).findCoil id = w.findCoil id)
        ∧ ∀ b i, (w.setAtCradle m.number k.id b i).1.findCoil id = w.findCoil id

/-- The first expiry of a report timer gives one REPORT_LATE notice in each gap, none in STOPPED; the second, for a crane in service with no move whose
claim is the only thing on the runway, stops the timer, opens 2-01 REPORT_LOST, takes the crane OUT and makes its claim the whole runway; in
STOPPED it raises nothing. That a first expiry with the timer stopped, or given again in one gap, has no effect, and that a second one with the timer
stopped or in STOPPED only ends the freshness of the last status, is the model's choice (notes/assumptions/3.md) (R93, R124, R180). -/
def Obligations.ReportsLateAndLost : Prop :=
  ∀ (s : State) (c : CraneId),
    ((s.cranes.get c).timer = true → (s.cranes.get c).late = false → s.link.mode ≠ .stopped →
      exec (.reportLate c) s = .next (State.after
        (({ s with cranes := s.cranes.set c { s.cranes.get c with late := true } } : State).noting
          (.reportLate c ((s.cranes.get c).last.map (·.2))))))
    ∧ (((s.cranes.get c).timer = false ∨ (s.cranes.get c).late = true ∨ s.link.mode = .stopped) →
      exec (.reportLate c) s = .next s.after)
    ∧ (((s.cranes.get c).timer = false ∨ s.link.mode = .stopped) → exec (.reportLost c) s = .next (State.after
        { s with cranes := s.cranes.set c { s.cranes.get c with fresh := false } }))
    ∧ ∀ k z, (s.cranes.get c).timer = true → s.link.mode ≠ .stopped → (s.cranes.get c).service ≠ .out → (s.cranes.get c).fault = none →
      (s.cranes.get c).current = none → s.runway.claims.get c = some k → s.layout.committed.size = some z → 0 ≤ k.lo → k.hi ≤ z.length →
      (∀ d, d ≠ c → s.runway.claims.get d = none) → alone s c → s.runway.fences = [] →
      exec (.reportLost c) s = .next (State.after
        (({ s with
            cranes := s.cranes.set c { s.cranes.get c with
              timer := false, fresh := false, service := .out, fault := some { cls := 2, code := 1, time := s.clock, detail := 0 } }
            runway := { s.runway with
              claims := s.runway.claims.set c (some ⟨0, z.length, .gap⟩), yields := s.runway.yields.set c none } } : State).notingAll
          [.faultOpened (.crane c) 2 1 0 none none false, .craneState c .out .fault]))

/-- The claim-wait timer with a request that waits for a fence, where nothing else is left to start, opens 3-04 CLAIM_TIMEOUT on the move with the
blocker as detail: the move is FAULTED, its request is withdrawn and its crane is sent STOP (R104, R114, R179); that its expiry without a waiting
request does nothing is the model's choice (notes/assumptions/3.md, notes/assumptions/35.md). -/
def Obligations.ClaimWaitTimesOut : Prop :=
  ∀ (s : State) (c : CraneId),
    (s.runway.waits.get c = none → exec (.claimWaitExpiry c) s = .next s.after)
    ∧ ∀ (x : Wait) (m : Move) (f : Nat), s.runway.waits.get c = some x → x.blocker = 10 + f → 1 ≤ f → s.findMove x.move = some m →
      m.fault = none → m.state = .active → m.crane = some c → m.afterAbort = none →
      (∀ d, d ≠ c → s.runway.waits.get d = none) → (∀ b, (s.bays.get b).waiting = []) → (∀ d, (s.cranes.get d).park = []) →
      s.moves.queue = [] → (∀ o, (s.cranes.get c).order = some o → o.kind ≠ .abortLower) →
      ∃ t k, exec (.claimWaitExpiry c) s = .next t ∧ t.findMove x.move = some k ∧ k.state = .faulted
        ∧ k.fault = some ⟨3, 4, s.clock, x.blocker, none, m.causes⟩ ∧ k.blocker = none ∧ k.phase = m.phase ∧ k.crane = some c
        ∧ t.runway.waits = .all none ∧ sendsNext s t c .stop
        ∧ t.link.notices = (s.notingAll [.faultOpened (.move x.move) 3 4 x.blocker none none false,
            .moveState x.move m.kind m.coil .faulted m.phase (some c)]).link.notices
        ∧ t.runway.claims = s.runway.claims ∧ t.yard = s.yard ∧ t.coils = s.coils

/-! ### Bays and scales -/

/-- The load of a bay scan in kilograms before the clamp (R58, R59 (1)). -/
def bayKg (e : BayEntry) (c1 c2 c3 c4 : Int) : Int :=
  roundAway (roundAway ((c1 - e.z1) * e.s1) 65536 + roundAway ((c2 - e.z2) * e.s2) 65536 + roundAway ((c3 - e.z3) * e.s3) 65536
    + roundAway ((c4 - e.z4) * e.s4) 65536) 1000

/-- The state with what the Weighing Unit holds for a bay set. -/
def withScale (s : State) (b : BayId) (x : BayScale) : State :=
  { s with weighing := { s.weighing with bays := s.weighing.bays.set b x } }

/-- A scan: of a bay with no entry it changes nothing; the first five only count the warm-up; each later one sets the sample and the scale state
SATURATED, OVER or READY, with a SCALE_STATE notice when the state changes, where no session runs; and a scan that is READY starts a session again
that waits for READY (R7, R57, R60, R63, R75 (2)). -/
def Obligations.BayScanTaken : Prop :=
  ∀ (s : State) (b : BayId) (c1 c2 c3 c4 : Int),
    (s.layout.committed.bays.get b = none → exec (.bayScan b c1 c2 c3 c4) s = .next s.after)
    ∧ ∀ e, s.layout.committed.bays.get b = some e →
      ((s.weighing.bays.get b).warm < 5 → exec (.bayScan b c1 c2 c3 c4) s = .next (State.after
        (withScale s b { s.weighing.bays.get b with warm := (s.weighing.bays.get b).warm + 1 })))
      ∧ ∀ (g k : Kg) (sat clamped : Bool) (st : ScaleState), 5 ≤ (s.weighing.bays.get b).warm →
        k = max (-99999) (min (bayKg e c1 c2 c3 c4) 199999) → g = k - (s.weighing.bays.get b).trim →
        (sat = true ↔ ∃ x ∈ [c1, c2, c3, c4], x = 8388607 ∨ x = -8388608) → (clamped = true ↔ bayKg e c1 c2 c3 c4 ≠ k) →
        (sat = true → st = .saturated) → (sat = false → (clamped = true ∨ (e.capacity : Int) < g) → st = .over) →
        (sat = false → clamped = false → g ≤ e.capacity → st = .ready) →
        ((s.weighing.bays.get b).session = none → exec (.bayScan b c1 c2 c3 c4) s = .next (State.after
          ((withScale s b { s.weighing.bays.get b with state := st, last := some ⟨g, sat, clamped⟩ }).notingAll
            (if st = (s.weighing.bays.get b).state then [] else [.scaleState b st none .state none]))))
        ∧ ∀ x, (s.weighing.bays.get b).session = some x → x.stage = .waitReady → st = .ready →
          exec (.bayScan b c1 c2 c3 c4) s = .next (State.after
            ((withScale s b { s.weighing.bays.get b with
                state := .ready, last := some ⟨g, sat, clamped⟩
                session := some { x with stage := .settle, window := [], started := s.clock } }).notingAll
              (if (s.weighing.bays.get b).state = .ready then [] else [.scaleState b .ready (some x.kind) .state none])))

/-- A session whose settle time is over. -/
def pastSettle (x : Session) : Session := { x with stage := if x.stage = .settle then .window else x.stage }

/-- The end of the settle time puts a session in SETTLE into WINDOW; that it leaves a session in another stage as it is, and that the stability timeout
does nothing to a session that is not in WINDOW or to none, is the model's choice (notes/assumptions/3.md, notes/assumptions/35.md). In WINDOW the
stability timeout starts a bay session again with its UNSTABLE notice, and ends a hook session UNSTABLE: the move keeps its coil's weight, has its
COIL_WEIGHED notice and, with a slot destination, a claim that meets no obstacle and nothing else left to start, travels on (R65, R67, R71, R72, R75 (1), R102,
R111). -/
def Obligations.SessionTimersExpire : Prop :=
  ∀ s : State,
    (∀ c, exec (.settleExpiry (.crane c)) s = .next (State.after
      { s with weighing := { s.weighing with cranes := (s.weighing.cranes.set c { s.weighing.cranes.get c with
          session := (s.weighing.cranes.get c).session.map pastSettle }) } }))
    ∧ (∀ b, exec (.settleExpiry (.bay b)) s = .next (State.after
      (withBaySession s b ((s.weighing.bays.get b).session.map pastSettle))))
    ∧ (∀ c, (∀ x, (s.weighing.cranes.get c).session = some x → x.stage ≠ .window) →
      exec (.stabilityTimeout (.crane c)) s = .next s.after)
    ∧ (∀ b, (∀ x, (s.weighing.bays.get b).session = some x → x.stage ≠ .window) → exec (.stabilityTimeout (.bay b)) s = .next s.after)
    ∧ (∀ b x, (s.weighing.bays.get b).session = some x → x.stage = .window →
      exec (.stabilityTimeout (.bay b)) s = .next (State.after
        ((withBaySession s b (some { x with stage := .settle, window := [], started := s.clock })).noting
          (.scaleState b (s.weighing.bays.get b).state (some x.kind) .unstable none))))
    ∧ ∀ c x n m k a p, (s.weighing.cranes.get c).session = some x → x.stage = .window → x.move = some n → s.findMove n = some m →
      s.moveCoil m = some k → m.state = .active → m.phase = some .weigh → m.crane = some c → m.afterAbort = none → m.dest = .slot a →
      s.layout.committed.slotPos a = some p → s.link.mode ≠ .stopped → s.runway.frozen = false → (s.cranes.get c).order = none → s.quiet →
      s.blocker c (addedStretch (s.runway.claims.get c) (s.requestedClaim c p.1)) = none →
      ∃ t u, exec (.stabilityTimeout (.crane c)) s = .next t ∧ (t.weighing.cranes.get c).session = none
        ∧ t.findMove n = some u ∧ u.weigh = some ⟨.unstable, none⟩ ∧ u.phase = some .travelDest ∧ u.state = .active ∧ u.dest = .slot a
        ∧ t.sent = [⟨c, if (s.cranes.get c).counter < 255 then (s.cranes.get c).counter + 1 else 1, .travel, p.1, p.2⟩]
        ∧ t.link.notices = (s.notingAll [.coilWeighed n k.id c .unstable none false none false]).link.notices
        ∧ t.coils = s.coils ∧ t.yard = s.yard

/-- A bay with one line at a level. -/
def lineAt (x : Bay) (l : Line) (level : Bool) : Bay :=
  match l with | .inPosition => { x with inPosition := level } | .safe => { x with safe := level }

/-- A line takes its level in every mode; with no visit, or in STOPPED, and no session, nothing else changes; a bay that this makes secured takes its
SECURING visit to TARING and starts its TARE session, with its scale READY; a LOADING visit whose bay this leaves unsecured is PAUSED and its session
discarded, and the move that holds the lock and lowers, if one does, stays ACTIVE in its phase without the lock and its crane is sent ABORT_LOWER,
whatever order is outstanding; IN_POSITION deasserted removes a DEPARTING visit; IN_POSITION asserted abandons a ZERO session, with a ZERO_ABANDONED
notice; that this notice carries the kind ZERO of the session that has just ended is the model's reading (notes/assumptions/37.md) (R64, R78, R84,
R105, R148, R151, R167, R171). -/
def Obligations.BayLineFollowed : Prop :=
  ∀ (s : State) (b : BayId) (l : Line) (level : Bool),
    ((s.weighing.bays.get b).session = none → ((s.bays.get b).visit = none ∨ s.link.mode = .stopped) →
      exec (.bayLineChange b l level) s = .next (State.after { s with bays := s.bays.set b (lineAt (s.bays.get b) l level) }))
    ∧ (∀ x, (s.bays.get b).visit = none → (s.weighing.bays.get b).session = some x → x.kind = .zero → (s.bays.get b).inPosition = false →
      exec (.bayLineChange b .inPosition true) s = .next (State.after
        ((withBaySession { s with bays := s.bays.set b { s.bays.get b with inPosition := true } } b none).noting
          (.scaleState b (s.weighing.bays.get b).state (some .zero) .zeroAbandoned none))))
    ∧ ∀ v, (s.bays.get b).visit = some v → s.link.mode ≠ .stopped →
      (v.state = .securing → (s.bays.get b).secured = false → (lineAt (s.bays.get b) l level).inPosition = true →
        (lineAt (s.bays.get b) l level).safe = true → (s.weighing.bays.get b).session = none → (s.weighing.bays.get b).state = .ready →
        exec (.bayLineChange b l level) s = .next (State.after
          ((withBaySession { s with bays := s.bays.set b { lineAt (s.bays.get b) l level with visit := some { v with state := .taring } } } b
            (some { kind := .tare, started := s.clock })).noting (.truckState b v.truck (some .taring) .secured none))))
      ∧ (v.state = .loading → (s.bays.get b).secured = true → level = false → (s.bays.get b).lock = none →
        exec (.bayLineChange b l level) s = .next (State.after
          ((withBaySession { s with bays := s.bays.set b { lineAt (s.bays.get b) l level with visit := some { v with state := .paused } } } b
            none).noting (.truckState b v.truck (some .paused) .unsecured none))))
      ∧ (∀ n m c, v.state = .loading → (s.bays.get b).secured = true → level = false → (s.bays.get b).lock = some n → s.findMove n = some m →
        m.state = .active → (m.phase = some .lowerGrip ∨ m.phase = some .lowerSet) → m.crane = some c → (∀ d, (s.bays.get d).waiting = []) →
        ∃ t, exec (.bayLineChange b l level) s = .next t ∧ sendsNext s t c .abortLower
          ∧ t.findMove n = some { m with afterAbort := some .bayWait } ∧ (t.bays.get b).lock = none
          ∧ (t.bays.get b).visit = some { v with state := .paused } ∧ (t.weighing.bays.get b).session = none
          ∧ t.link.notices = (s.noting (.truckState b v.truck (some .paused) .unsecured none)).link.notices
          ∧ t.coils = s.coils ∧ t.yard = s.yard ∧ t.runway.claims = s.runway.claims)
      ∧ (v.state = .departing → (s.bays.get b).inPosition = true →
        exec (.bayLineChange b .inPosition false) s = .next (State.after
          (({ s with bays := s.bays.set b { s.bays.get b with inPosition := false, visit := none } } : State).noting
            (.truckState b v.truck none .departed none))))

/-! ### Arithmetic -/

/-- A channel converts by the exact product of its difference and its span, divided by 65,536 and rounded once, halves away from zero; the channels
add up without a further rounding: a sample shows the sum of its channels rounded to kilograms and clamped (R58). -/
def Obligations.ChannelConversion : Prop :=
  (∀ (c z : Int) (span : Nat),
    2 * |65536 * channelGrams c z span - (c - z) * span| ≤ 65536
      ∧ (2 * |65536 * channelGrams c z span - (c - z) * span| = 65536 → |(c - z) * span| ≤ |65536 * channelGrams c z span|)
      ∧ ((-8388608 ≤ c ∧ c ≤ 8388607) → (-8388608 ≤ z ∧ z ≤ 8388607) → |c - z| ≤ 16777215 ∧ (span ≤ 4000000 → |(c - z) * span| < 2 ^ 47)))
    ∧ (∀ c z : Int, channelGrams c z 65536 = c - z ∧ channelGrams c z 262144 = 4 * (c - z))
    ∧ channelGrams (-75) 0 32768 = -38
    ∧ ∀ l : List (Int × Int × Nat),
      (convert l).k = max (-99999) (min (roundAway ((l.map fun x => channelGrams x.1 x.2.1 x.2.2).sum) 1000) 199999)

/-- Every slot of a row stands at the row's x; bottom position p at y0 + (p − 1) × pitch, top position t at y0 + (t − 1) × pitch + floor(pitch / 2), which
is midway between its supports, or half a centimetre toward bottom position t when the pitch is odd; slot costs, crane choice and TRAVEL orders use
these positions (R5). -/
def Obligations.SlotPositions : Prop :=
  (∀ (img : Image) (r p : Nat) (e : RowEntry), img.rows.get? r = some e →
    img.slotPos ⟨r, .bottom, p⟩ = some ((e.x : Int), (e.y0 : Int) + ((p : Int) - 1) * e.pitch)
      ∧ img.slotPos ⟨r, .top, p⟩ = some ((e.x : Int), (e.y0 : Int) + ((p : Int) - 1) * e.pitch + ((e.pitch / 2 : Nat) : Int))
      ∧ ∀ y y1 y2 x, img.slotPos ⟨r, .top, p⟩ = some (x, y) → img.slotPos ⟨r, .bottom, p⟩ = some (x, y1) →
        img.slotPos ⟨r, .bottom, p + 1⟩ = some (x, y2) → 2 * y = y1 + y2 - ((e.pitch % 2 : Nat) : Int))
    ∧ (∀ (img : Image) (o : Cm × Cm) (a : SlotAddr) (e : RowEntry) (x y : Cm), img.rows.get? a.row = some e → img.slotPos a = some (x, y) →
        slotCost o e a = (x - o.1).natAbs + (y - o.2).natAbs)
    ∧ ∀ (s : State) (m : Move) (c : Option CraneId) (a : SlotAddr), s.placePos (.slot a) = s.layout.committed.slotPos a
        ∧ s.destPos c (.slot a) = s.layout.committed.slotPos a
        ∧ (m.source = some (.slot a) → s.phaseTarget m .travelSrc = s.layout.committed.slotPos a)
        ∧ (m.dest = .slot a → s.phaseTarget m .travelDest = s.layout.committed.slotPos a)

/-- The axle share of a coil on a trailer is its weight by its distance over the trailer length, to the nearest kilogram, halves up; it and the kingpin
share are not negative and add up to the weight. A window's result is the whole increment nearest to the mean of its values, and a window is
stable exactly when it is full and no two of its values lie further apart than the band (R66, R153). -/
def Obligations.SharesAndWindows : Prop :=
  (∀ (m : Kg) (d l : Nat), 0 ≤ m → d ≤ l → 0 < l →
    -(l : Int) < 2 * (axleShare m d l * l - m * d) ∧ 2 * (axleShare m d l * l - m * d) ≤ l ∧ 0 ≤ axleShare m d l
      ∧ 0 ≤ kingpinShare m d l ∧ axleShare m d l + kingpinShare m d l = m)
    ∧ (∀ (inc size : Nat) (win : List Kg), 0 < inc → 0 < size →
      (∃ q, windowResult inc size win = inc * q) ∧ 2 * |windowResult inc size win * size - win.sum| ≤ size * inc)
    ∧ ∀ (size band : Nat) (win : List Kg),
      windowStable size band win = true ↔ win.length = size ∧ ∀ a ∈ win, ∀ b ∈ win, a - b ≤ band

/-! ### Crane links: frames -/

/-- The bytes received on a crane link are read as a status exactly when they are the frame of that status, its fields in the widths of a frame: start
byte C5H, length byte 16, type 81H, the 16 body bytes and a good CRC; every other length, type, enumeration byte or CRC is discarded. A good frame that
comes as CRANE_STATUS_DISCARDED is taken as the CRANE_STATUS of its contents, by the model's choice (notes/assumptions/18.md); that the still byte is 0 or
1 is its reading (notes/assumptions/16.md) (R85, R86, R209). -/
def Obligations.StatusFramesRead : Prop :=
  (∀ (got : List Byte) (st : Status), readStatusFrame got = .ok st ↔ got = statusFrame st ∧ st.wellFormed = true)
    ∧ (∀ st : Status, statusFrame st = 0xC5#8 :: 16#8 :: 0x81#8 :: (statusBytes st ++ crcBytes (16#8 :: 0x81#8 :: statusBytes st)))
    ∧ ∀ (s : State) (c : CraneId) (got : List Byte) (st : Status), s.received c got = .ok st →
      exec (.craneStatusDiscarded c got) s = exec (.craneStatus c st) s

/-! ### The Dispatcher -/

/-- The crane is free (R132). -/
def freeCrane (s : State) (c : CraneId) : Prop :=
  (s.cranes.get c).service = .inService ∧ (s.cranes.get c).current = none ∧ (s.cranes.get c).fault = none ∧ (s.cranes.get c).park = []

/-- The positions at which a move needs a stationary claim, the one that its distance is reckoned from first (R134). -/
def workPlaces (s : State) (m : Move) (xs : List Cm) : Prop :=
  ((m.kind = .putDown ∨ m.kind = .shift) ∧ ∃ q, s.destPos none m.dest = some q ∧ xs = [q.1])
    ∨ (m.kind ≠ .putDown ∧ m.kind ≠ .shift ∧ ∃ p q, m.source.bind s.placePos = some p ∧ s.destPos none m.dest = some q ∧ xs = [p.1, q.1])

/-- Restrictions (a) to (d) of R132 allow the move to the crane, and its stationary claim at each position lies strictly inside the crane's corridor, or
reaches a runway end where the crane has no neighbour (R134). -/
def eligibleFor (s : State) (c : CraneId) (m : Move) (xs : List Cm) : Prop :=
  (∀ k, s.hookCoil c = some k → m.kind = .putDown ∧ m.coil = some k.id) ∧ (m.kind = .putDown → s.hookCoil c ≠ none)
    ∧ (m.kind = .shift → m.named = some c) ∧ (∀ j i, m.mark = some (j, i) → j ≠ c)
    ∧ ∀ x ∈ xs,
      (s.westBound c < (s.stationary c x).1 ∨ (s.westNeighbour c = none ∧ (s.stationary c x).1 = 0))
        ∧ ((s.stationary c x).2 < s.eastBound c ∨ (s.eastNeighbour c = none ∧ (s.stationary c x).2 = s.runwayLength))

/-- The crane may be preempted for the move (R137 (1) to (4)). -/
def preemptible (s : State) (c : CraneId) (m : Move) (xs : List Cm) : Prop :=
  (∃ k, s.currentMove c = some k ∧ k.state = .active ∧ (k.phase = some .claimSrc ∨ k.phase = some .travelSrc) ∧ k.priority < m.priority)
    ∧ (s.cranes.get c).park.length < 2 ∧ eligibleFor s c m xs

/-- A crane stands before another in the choice for a position: nearer to it, or as near with the lower number (R134). -/
def standsBefore (s : State) (x : Cm) (c d : CraneId) : Prop :=
  (s.craneX c - x).natAbs < (s.craneX d - x).natAbs ∨ ((s.craneX c - x).natAbs = (s.craneX d - x).natAbs ∧ craneNum c < craneNum d)

/-- The stationary claim of a crane lies from h and the margin west of a position to as far east of it, clipped to the runway. The Dispatcher chooses for
a move the eligible free crane whose last reported x is nearest to the move's source, or to the destination of a PUT_DOWN or SHIFT, ties going to the
lower number, and no crane exactly when none is eligible; the crane to preempt is chosen by the same rule among those that meet the four conditions. A corridor
ends at the runway end on a side with no neighbour in the committed image; a neighbour that is not free bounds it by its claim, or with no claim by the
end of its body, or with no last status by the crane's own claim; a free neighbour bounds it by what the crane beyond it holds, or the runway end, and
the space that neighbour needs, 2 × h + 2 × M. It is the model's choice that a crane that never reported stands at a free position
(notes/assumptions/8.md) and that a stationary claim wholly beyond a runway end keeps its bounds (notes/assumptions/38.md) (R109 (1), R132, R133, R134, R137). -/
def Obligations.DispatcherChoosesNearest : Prop :=
  (∀ (s : State) (c : CraneId) (x : Cm), s.stationary c x
      = (max 0 (x - s.halfWidth c - s.margin), min s.runwayLength (x + s.halfWidth c + s.margin)))
    ∧ (∀ (s : State) (m : Move) (x : Cm) (xs : List Cm), workPlaces s m (x :: xs) →
      (∀ c, s.chooseCrane m = some c ↔ (freeCrane s c ∧ eligibleFor s c m (x :: xs))
        ∧ ∀ d, d ≠ c → freeCrane s d → eligibleFor s d m (x :: xs) → standsBefore s x c d)
      ∧ (s.chooseCrane m = none ↔ ∀ c, ¬(freeCrane s c ∧ eligibleFor s c m (x :: xs)))
      ∧ ∀ c, s.choosePreempted m = some c ↔ preemptible s c m (x :: xs)
        ∧ ∀ d, d ≠ c → preemptible s d m (x :: xs) → standsBefore s x c d)
    ∧ ∀ (s : State) (c : CraneId),
      (s.westNeighbour c = none → s.westBound c = 0) ∧ (s.eastNeighbour c = none → s.eastBound c = s.runwayLength)
      ∧ (∀ j, s.westNeighbour c = some j ↔ westOf c = some j ∧ s.layout.committed.cranes.get j ≠ none)
      ∧ (∀ j, s.eastNeighbour c = some j ↔ eastOf c = some j ∧ s.layout.committed.cranes.get j ≠ none)
      ∧ (∀ j, s.westNeighbour c = some j → ¬ freeCrane s j →
        (∀ k, s.runway.claims.get j = some k → s.westBound c = k.hi)
        ∧ (∀ st time, s.runway.claims.get j = none → (s.cranes.get j).last = some (st, time) → s.westBound c = st.x + s.halfWidth j)
        ∧ ∀ k, s.runway.claims.get j = none → (s.cranes.get j).last = none → s.runway.claims.get c = some k → s.westBound c = k.lo)
      ∧ (∀ j, s.eastNeighbour c = some j → ¬ freeCrane s j →
        (∀ k, s.runway.claims.get j = some k → s.eastBound c = k.lo)
        ∧ (∀ st time, s.runway.claims.get j = none → (s.cranes.get j).last = some (st, time) → s.eastBound c = st.x - s.halfWidth j)
        ∧ ∀ k, s.runway.claims.get j = none → (s.cranes.get j).last = none → s.runway.claims.get c = some k → s.eastBound c = k.hi)
      ∧ (∀ j, s.westNeighbour c = some j → freeCrane s j →
        (s.westNeighbour j = none → s.westBound c = 2 * s.halfWidth j + 2 * s.margin)
        ∧ ∀ i, s.westNeighbour j = some i →
          (∀ k, s.runway.claims.get i = some k → s.westBound c = k.hi + 2 * s.halfWidth j + 2 * s.margin)
          ∧ (s.runway.claims.get i = none → (s.cranes.get i).last = none → s.westBound c = 2 * s.halfWidth j + 2 * s.margin)
          ∧ ∀ st time, s.runway.claims.get i = none → (s.cranes.get i).last = some (st, time) →
            s.westBound c = st.x + s.halfWidth i + 2 * s.halfWidth j + 2 * s.margin)
      ∧ ∀ j, s.eastNeighbour c = some j → freeCrane s j →
        (s.eastNeighbour j = none → s.eastBound c = s.runwayLength - 2 * s.halfWidth j - 2 * s.margin)
        ∧ ∀ i, s.eastNeighbour j = some i →
          (∀ k, s.runway.claims.get i = some k → s.eastBound c = k.lo - 2 * s.halfWidth j - 2 * s.margin)
          ∧ (s.runway.claims.get i = none → (s.cranes.get i).last = none →
            s.eastBound c = s.runwayLength - 2 * s.halfWidth j - 2 * s.margin)
          ∧ ∀ st time, s.runway.claims.get i = none → (s.cranes.get i).last = some (st, time) →
            s.eastBound c = st.x - s.halfWidth i - 2 * s.halfWidth j - 2 * s.margin

/-- A request of a crane for a claim toward a position meets no obstacle. -/
def clearWay (s : State) (c : CraneId) (x : Cm) : Prop :=
  s.blocker c (addedStretch (s.runway.claims.get c) (s.requestedClaim c x)) = none

/-- The claim of a crane toward a position, as a TRAVEL claim (R109 (3), R111 (1)). -/
def travelClaimed (s : State) (c : CraneId) (x : Cm) : Claim := ⟨(s.requestedClaim c x).1, (s.requestedClaim c x).2, .travel⟩

/-- An order sent to one crane alone, with the number after its counter. -/
def sendsAt (s t : State) (c : CraneId) (k : OrderKind) (p : Cm × Cm) : Prop :=
  t.sent = [⟨c, if (s.cranes.get c).counter < 255 then (s.cranes.get c).counter + 1 else 1, k, p.1, p.2⟩]

/-- RUN_START with one dispatchable move in the queue, from place to slot, where the Dispatcher chooses a crane with no outstanding order and the way to
the source is clear: the move leaves the queue ACTIVE on that crane, passes CLAIM_SRC, has its claim and is sent its TRAVEL to the source; the other
cranes stay. RUN_START where one crane IN, without a fault or a move, has parked moves: it takes the top of its stack, ACTIVE at CLAIM_SRC whatever
phase it kept, with the rest of the stack left. MOVE_REQUEST SHIFT of a crane whose ACTIVE move before its grip has a lower priority, with room on its
stack: the move is sent STOP, PARKED with its phase kept on top of the stack, and the SHIFT is ACTIVE in its stead. Each has its MOVE_STATE notices in
order (R104, R106, R111, R131, R134, R135, R136, R137, R138). -/
def Obligations.MovesAssignedParkedTaken : Prop :=
  (∀ (s : State) (seq : Byte) (body : List Byte) (n : Nat) (m : Move) (c : CraneId) (p : Cm × Cm), s.takes (.runStart seq body) →
    s.layout.valid = true → s.runway.frozen = false → (∀ d, (s.cranes.get d).park = []) → s.moves.queue = [n] → s.findMove n = some m →
    m.state = .queued → m.waits = [] → (m.kind = .store ∨ m.kind = .relocate) → (∃ a, m.dest = .slot a) → m.mark = none → m.afterAbort = none →
    m.source.bind s.placePos = some p → s.chooseCrane m = some c → (s.cranes.get c).order = none → clearWay s c p.1 →
    ∃ t, exec (.runStart seq body) s = .next t ∧ t.link.mode = .run ∧ t.moves.queue = []
      ∧ t.findMove n = some { m with state := .active, crane := some c, phase := some .travelSrc, blocker := none }
      ∧ (t.cranes.get c).current = some n ∧ (∀ d, d ≠ c → t.cranes.get d = s.cranes.get d)
      ∧ t.runway.claims = s.runway.claims.set c (some (travelClaimed s c p.1)) ∧ sendsAt s t c .travel p
      ∧ t.link.notices = (s.notingAll [.modeChange (some s.link.mode) .run .runStart,
          .moveState n m.kind m.coil .active (some .claimSrc) (some c)]).link.notices
      ∧ t.coils = s.coils ∧ t.yard = s.yard)
    ∧ (∀ (s : State) (seq : Byte) (body : List Byte) (n : Nat) (m : Move) (c : CraneId) (l : List Nat) (p : Cm × Cm), s.takes (.runStart seq body) →
      s.layout.valid = true → s.runway.frozen = false → (∀ d, d ≠ c → (s.cranes.get d).park = []) → (s.cranes.get c).park = l ++ [n] →
      s.moves.queue = [] → (s.cranes.get c).service = .inService → (s.cranes.get c).fault = none → (s.cranes.get c).current = none →
      (s.cranes.get c).order = none → s.findMove n = some m → m.crane = some c → m.afterAbort = none → m.source.bind s.placePos = some p →
      (∀ i j, m.mark = some (i, j) → j ≠ c) → clearWay s c p.1 →
      ∃ t, exec (.runStart seq body) s = .next t ∧ t.link.mode = .run
        ∧ t.findMove n = some { m with state := .active, phase := some .travelSrc, blocker := none }
        ∧ (t.cranes.get c).current = some n ∧ (t.cranes.get c).park = l ∧ (∀ d, d ≠ c → t.cranes.get d = s.cranes.get d)
        ∧ t.runway.claims = s.runway.claims.set c (some (travelClaimed s c p.1)) ∧ sendsAt s t c .travel p
        ∧ t.link.notices = (s.notingAll [.modeChange (some s.link.mode) .run .runStart,
            .moveState n m.kind m.coil .active (some .claimSrc) (some c)]).link.notices
        ∧ t.coils = s.coils ∧ t.yard = s.yard)
    ∧ ∀ (s : State) (seq : Byte) (body : List Byte) (c : CraneId) (n j p : Nat) (k : Move), s.takes (.moveRequest seq body) → s.bounded →
      u8At body 1 = 2 → u8At body 14 = craneNum c → u8At body 15 = 5 → carriesPriority body 19 p → s.layout.committed.cranes.get c ≠ none →
      (u16At body 17 : Int) ≤ s.runwayLength → nextMove s n j → s.runway.frozen = false → s.moves.queue = [] →
      s.currentMove c = some k → k.state = .active → (k.phase = some .claimSrc ∨ k.phase = some .travelSrc) → k.priority < p →
      k.crane = some c → k.afterAbort = none → (s.cranes.get c).park.length < 2 → s.hookCoil c = none →
      (∀ o, (s.cranes.get c).order = some o → o.kind ≠ .abortLower) →
      s.insideCorridor c (s.stationary c (u16At body 17)) = true → clearWay s c (u16At body 17) →
      ∃ t u, exec (.moveRequest seq body) s = .next t
        ∧ t.findMove k.number = some u ∧ u.state = .parked ∧ u.phase = k.phase ∧ u.crane = some c ∧ u.blocker = none ∧ u.source = k.source
        ∧ u.dest = k.dest ∧ u.coil = k.coil
        ∧ (t.cranes.get c).park = (s.cranes.get c).park ++ [k.number] ∧ (t.cranes.get c).current = some n
        ∧ t.findMove n = some
          { number := n, kind := .shift, origin := .link, coil := none, source := none, dest := .runway (u16At body 17), priority := p
            state := .active, phase := some .travelDest, crane := some c, created := s.clock, named := some c }
        ∧ t.runway.claims = s.runway.claims.set c (some (travelClaimed s c (u16At body 17))) ∧ t.runway.waits.get c = none
        ∧ sendsNext s t c .stop ∧ t.moves.queue = []
        ∧ t.link.notices = (s.notingAll [.moveState n .shift none .queued none none,
            .moveState k.number k.kind k.coil .parked k.phase (some c),
            .moveState n .shift none .active (some .claimDest) (some c)]).link.notices
        ∧ t.link.replies = s.link.replies ++ [⟨0xC0#8, seq, .done (.requested n (.runway (u16At body 17)) [])⟩]
        ∧ t.coils = s.coils ∧ t.yard = s.yard

/-! ### Yields and mutual waits -/

/-- The request of crane `i` toward `x` with the target of a yield of its neighbour `j` (R116 (a), (b)). -/
def yieldTo (s : State) (i j : CraneId) (x target : Cm) : Prop :=
  (eastOf i = some j
      ∧ target = max ((s.requestedClaim i x).2 + 1 + s.halfWidth j + s.margin + s.layout.committed.tolerance) (s.craneX j))
    ∨ (westOf i = some j
      ∧ target = min ((s.requestedClaim i x).1 - 1 - s.halfWidth j - s.margin - s.layout.committed.tolerance) (s.craneX j))

/-- MOVE_RESUME of a move HELD by LINK alone that kept CLAIM_DEST toward a slot, on a crane IN, where its request meets an obstacle: the move is ACTIVE
and waits with the blocker found, its claim kept. Where the blocker is a free neighbour with an empty hook whose target fits, on the runway unclipped
and with a clear way, the yield is made: the neighbour's claim becomes its requested claim, it is YIELDING and sent TRAVEL at its last reported y.
Where the blocker is a crane with a move or a coil that has no waiting request, or a fence, no yield is made and nothing is sent. A status that
reports the TRAVEL of a yield DONE at its target ends the yield: the crane is IN with cause YIELD_END and its claim shrinks to its stationary claim
(R106, R109, R111, R112, R115, R116, R117 (1)). -/
def Obligations.YieldsMade : Prop :=
  (∀ (s : State) (seq : Byte) (body : List Byte) (m : Move) (i : CraneId) (a : SlotAddr) (p : Cm × Cm) (blk : Nat), s.takes (.moveResume seq body) →
    s.findMove (u16At body 1) = some m → m.state = .held → m.causes = { link := true } → m.crane = some i → m.phase = some .claimDest →
    m.dest = .slot a → s.layout.committed.slotPos a = some p → (s.cranes.get i).service ≠ .out → s.runway.frozen = false →
    s.blocker i (addedStretch (s.runway.claims.get i) (s.requestedClaim i p.1)) = some blk →
    (∀ j x, blk = craneNum j → freeCrane s j → s.hookCoil j = none → (s.cranes.get j).order = none → yieldTo s i j p.1 x →
      0 ≤ x - s.halfWidth j - s.margin → x + s.halfWidth j + s.margin ≤ s.runwayLength → clearWay s j x →
      ∃ t, exec (.moveResume seq body) s = .next t
        ∧ t.findMove m.number = some { m with state := .active, causes := {}, blocker := some blk }
        ∧ t.runway.waits.get i = some ⟨m.number, (s.requestedClaim i p.1).1, (s.requestedClaim i p.1).2, blk, s.clock, s.eventNo + 1⟩
        ∧ t.runway.claims = s.runway.claims.set j (some (travelClaimed s j x)) ∧ t.runway.yields.get j = some ⟨i, x⟩
        ∧ (t.cranes.get j).service = .yielding ∧ sendsAt s t j .travel (x, s.craneY j)
        ∧ t.link.notices = (s.notingAll [.moveState m.number m.kind m.coil .active (some .claimDest) (some i),
            .craneState j .yielding .yield]).link.notices
        ∧ t.link.replies = s.link.replies ++ [⟨0xC2#8, seq, .done .plain⟩])
    ∧ ((∀ j, blk = craneNum j → ((s.cranes.get j).current ≠ none ∨ s.hookCoil j ≠ none) ∧ s.runway.waits.get j = none) →
      ∃ t, exec (.moveResume seq body) s = .next t
        ∧ t.findMove m.number = some { m with state := .active, causes := {}, blocker := some blk }
        ∧ t.runway.waits.get i = some ⟨m.number, (s.requestedClaim i p.1).1, (s.requestedClaim i p.1).2, blk, s.clock, s.eventNo + 1⟩
        ∧ t.runway.claims = s.runway.claims ∧ t.runway.yields = s.runway.yields ∧ t.cranes = s.cranes ∧ t.sent = []
        ∧ t.link.notices = (s.noting (.moveState m.number m.kind m.coil .active (some .claimDest) (some i))).link.notices
        ∧ t.link.replies = s.link.replies ++ [⟨0xC2#8, seq, .done .plain⟩]))
    ∧ ∀ (s : State) (c : CraneId) (st : Status) (e : CraneEntry) (z : RunwaySize) (o : Order) (y : Yield) (k : Claim),
      s.layout.committed.cranes.get c = some e → s.layout.committed.size = some z → s.link.mode ≠ .stopped → s.runway.frozen = false →
      s.quiet → alone s c → s.runway.fences = [] → s.runway.yields.get c = some y → (s.cranes.get c).service = .yielding →
      (s.cranes.get c).fault = none → (s.cranes.get c).current = none → (s.cranes.get c).order = some o → o.kind = .travel →
      o.use = .yieldTravel → (s.weighing.cranes.get c).session = none → s.runway.claims.get c = some k →
      st.order = o.num → st.ostate = .done → st.hoist = .up → st.still = true →
      |(st.x : Int) - o.x| ≤ s.layout.committed.tolerance → |(st.y : Int) - o.y| ≤ s.layout.committed.tolerance →
      k.lo ≤ (st.x : Int) - e.h → (st.x : Int) + e.h ≤ k.hi → st.x ≤ z.length → emptyReading s e st → st.drive = 0 →
      ∃ t, exec (.craneStatus c st) s = .next t ∧ (t.cranes.get c).service = .inService ∧ (t.cranes.get c).order = none
        ∧ (t.cranes.get c).current = none ∧ (t.cranes.get c).last = some (st, s.clock) ∧ t.runway.yields.get c = none
        ∧ t.runway.claims = s.runway.claims.set c (some
          { lo := max k.lo (max 0 ((st.x : Int) - e.h - s.layout.committed.margin))
            hi := min k.hi (min (z.length : Int) (st.x + e.h + s.layout.committed.margin)), kind := .stationary })
        ∧ t.link.notices = (s.noting (.craneState c .inService .yieldEnd)).link.notices
        ∧ t.sent = [] ∧ t.moves = s.moves ∧ t.coils = s.coils ∧ t.yard = s.yard

/-- Of two cranes that wait on each other, each with its current move, the move of `l` gives way to that of `o` (R118 (1) to (3)). -/
def yieldsTo (s : State) (l o : CraneId) (ml mo : Move) : Prop :=
  (s.hookCoil l = none ∧ s.hookCoil o ≠ none)
    ∨ ((s.hookCoil l = none ↔ s.hookCoil o = none)
      ∧ (ml.priority < mo.priority ∨ (ml.priority = mo.priority ∧ craneNum o < craneNum l)))

/-- Two cranes wait on each other with their current moves (R118). -/
def mutualWait (s : State) (l o : CraneId) (ml mo : Move) (xl xo : Wait) : Prop :=
  s.runway.waits.get l = some xl ∧ xl.blocker = craneNum o ∧ s.runway.waits.get o = some xo ∧ xo.blocker = craneNum l
    ∧ s.currentMove l = some ml ∧ s.currentMove o = some mo ∧ xl.move = ml.number

/-- At a refusal that finds two cranes waiting on each other, on whichever of them it falls: with a coil on each hook nothing changes; else the move that
gives way, that of the empty crane, or of the lower priority, or of the higher crane number, returns to the queue ahead of its priority with no crane,
no blocker and no wait, its mark naming both cranes, and nothing is sent. At the expiry of either claim-wait timer with a coil on each hook, the move
that gives way has its old slot released and the slot reserved that the AUTO search finds for its coil in its corridor, with its SLOT_REALLOCATED
notice and, on a clear way, its new claim and TRAVEL; with no slot found it keeps its destination and is FAULTED by 3-04 with its blocker as detail;
the other request stays in its place (R39, R111, R114 (1), R118, R119, R120). -/
def Obligations.MutualWaitsGiveWay : Prop :=
  (∀ (w : Work) (l o i : CraneId) (ml mo : Move) (xl xo : Wait), mutualWait w.toState l o ml mo xl xo → l ≠ o → (i = l ∨ i = o) →
    (w.hookCoil l ≠ none → w.hookCoil o ≠ none → w.mutualStep i = w)
    ∧ (yieldsTo w.toState l o ml mo → w.hookCoil l = none →
      (w.mutualStep i).findMove ml.number = some { ml with state := .queued, crane := none, blocker := none, mark := some (l, o) }
      ∧ ((w.mutualStep i).cranes.get l).current = none ∧ (w.mutualStep i).runway.waits.get l = none
      ∧ (w.mutualStep i).runway.waits.get o = some xo ∧ (w.mutualStep i).runway.claims = w.runway.claims
      ∧ (∃ q1 q2, w.moves.queue = q1 ++ q2 ∧ (w.mutualStep i).moves.queue = q1 ++ ml.number :: q2
        ∧ (∀ h ∈ q1, ml.priority < w.priorityOf h) ∧ ∀ h, q2.head? = some h → w.priorityOf h ≤ ml.priority)
      ∧ (w.mutualStep i).out = w.out ++ [.moveState ml.number ml.kind ml.coil .queued ml.phase none]
      ∧ (w.mutualStep i).orders = w.orders ∧ (w.mutualStep i).yard = w.yard ∧ (w.mutualStep i).coils = w.coils
      ∧ (∀ n, n ≠ ml.number → (w.findMove n).map (fun m => (m.state, m.phase, m.crane))
          = ((w.mutualStep i).findMove n).map (fun m => (m.state, m.phase, m.crane)))))
    ∧ ∀ (s : State) (l o i : CraneId) (ml mo : Move) (xl xo : Wait) (k : Coil) (b : SlotAddr), mutualWait s l o ml mo xl xo → l ≠ o →
      (i = l ∨ i = o) → s.hookCoil l ≠ none → s.hookCoil o ≠ none → yieldsTo s l o ml mo → s.moveCoil ml = some k → ml.state = .active →
      ml.phase = some .claimDest → ml.crane = some l → ml.afterAbort = none → ml.fault = none → ml.dest = .slot b → b.pos ≤ 12 →
      s.slot b = some (.reservedIn ml.number) → s.link.mode ≠ .stopped → s.runway.frozen = false → s.moves.queue = [] →
      (∀ a p, s.autoSlot k.load (s.craneX l, s.craneY l) { interval := some (s.westBound l, s.eastBound l) } = some a → a.pos ≤ 12 →
        s.layout.committed.slotPos a = some p → (s.cranes.get l).order = none → clearWay s l p.1 →
        ∃ t u, exec (.claimWaitExpiry i) s = .next t ∧ t.slot b = none ∧ t.slot a = some (.reservedIn ml.number)
          ∧ t.findMove ml.number = some u ∧ u.dest = .slot a ∧ u.state = .active ∧ u.phase = some .travelDest ∧ u.blocker = none
          ∧ t.runway.waits.get l = none ∧ t.runway.waits.get o = some xo
          ∧ t.runway.claims = s.runway.claims.set l (some (travelClaimed s l p.1)) ∧ sendsAt s t l .travel p
          ∧ t.link.notices = (s.noting (.slotReallocated ml.number ml.coil (some (.slot b)) a k.used)).link.notices ∧ t.coils = s.coils)
      ∧ (s.autoSlot k.load (s.craneX l, s.craneY l) { interval := some (s.westBound l, s.eastBound l) } = none →
        (∀ d, (s.cranes.get l).order = some d → d.kind ≠ .abortLower) →
        (∀ d, (s.bays.get d).waiting = []) →
        ∃ t u, exec (.claimWaitExpiry i) s = .next t ∧ t.findMove ml.number = some u ∧ u.state = .faulted ∧ u.dest = .slot b
          ∧ u.fault = some ⟨3, 4, s.clock, xl.blocker, none, ml.causes⟩ ∧ u.blocker = none ∧ u.phase = some .claimDest
          ∧ t.runway.waits.get l = none ∧ t.runway.waits.get o = some xo ∧ t.runway.claims = s.runway.claims ∧ sendsNext s t l .stop
          ∧ t.link.notices = (s.notingAll [.faultOpened (.move ml.number) 3 4 xl.blocker none none false,
              .moveState ml.number ml.kind ml.coil .faulted (some .claimDest) (some l)]).link.notices
          ∧ t.yard = s.yard ∧ t.coils = s.coils)

/-! ### Samples of a session -/

/-- A window with a value added, the oldest removed when it then holds more than `size` values (R66). -/
def entered (size : Nat) (win : List Kg) (v : Kg) : List Kg :=
  if size < win.length + 1 then (win ++ [v]).drop 1 else win ++ [v]

/-- A window is stable (R66). -/
def settled (size band : Nat) (win : List Kg) : Prop := win.length = size ∧ ∀ a ∈ win, ∀ b ∈ win, a - b ≤ band

/-- The cells of a status read a plain load up to the rated load: no channel at a limit, nothing clamped. -/
def plainReading (e : CraneEntry) (st : Status) : Prop :=
  (st.c1 ≠ 8388607 ∧ st.c1 ≠ -8388608) ∧ (st.c2 ≠ 8388607 ∧ st.c2 ≠ -8388608)
    ∧ (-99999 ≤ netOf e st + e.tare ∧ netOf e st + e.tare ≤ 199999) ∧ netOf e st ≤ e.swl

/-- A still status of a plain load while a HOOK session of the crane's move stands in WINDOW: its net load enters the window, the oldest value leaves
above W values, and while the window is not stable nothing else changes. When it is stable, the session ends STABLE with the window's result at 10 kg.
A result from E_h to SWL is written as the coil's measured weight with the crane as source, COIL_WEIGHED carries it with the deviation flag, and the
move leaves WEIGH for CLAIM_DEST and, on a clear way to its bottom slot, travels. A result below E_h is not written, and 3-01 GRIP_EMPTY is raised on
the move in WEIGH; one above SWL is not written, and 2-02 OVERLOAD with detail 3 is raised on the crane, which holds the move in WEIGH (R52, R56, R65, R66, R70,
R72, R102, R111, R179, R180). -/
def Obligations.HookSessionSamples : Prop :=
  ∀ (s : State) (c : CraneId) (st : Status) (e : CraneEntry) (x : Session) (n : Nat) (m : Move) (k : Coil) (l : Claim) (win : List Kg)
    (W B E : Nat) (r : Kg) (u : State),
    s.layout.committed.cranes.get c = some e → s.link.mode ≠ .stopped → s.quiet → alone s c → (s.cranes.get c).order = none →
    (s.cranes.get c).current = some n → (s.cranes.get c).fault = none → (s.cranes.get c).service = .inService → s.findMove n = some m →
    s.moveCoil m = some k → m.state = .active → m.phase = some .weigh → m.crane = some c → m.afterAbort = none → m.fault = none →
    (s.weighing.cranes.get c).session = some x → x.kind = .hook → x.move = some n → x.stage = .window → s.runway.claims.get c = some l →
    l.lo ≤ (st.x : Int) - e.h → (st.x : Int) + e.h ≤ l.hi → st.still = true → st.drive = 0 → plainReading e st →
    W = s.layout.committed.tuning.window → B = s.layout.committed.tuning.band → E = s.layout.committed.tuning.emptyHook →
    win = entered W x.window (netOf e st) → r = windowResult 10 W win →
    u = { s with cranes := s.cranes.set c { tookStatus (s.cranes.get c) st s.clock with claimLatch := false } } →
    (¬ settled W B win → exec (.craneStatus c st) s = .next (State.after
      { u with weighing := { s.weighing with cranes := s.weighing.cranes.set c (
          { session := some { x with window := win }, overload := false, signal := false
            unexpected := if netOf e st ≤ E then false else (s.weighing.cranes.get c).unexpected
            last := some ⟨netOf e st, false, false⟩ } : HookScale) } }))
    ∧ (∀ a p, settled W B win → (E : Int) ≤ r → r ≤ e.swl → m.dest = .slot a → a.tier = .bottom → s.layout.committed.slotPos a = some p →
      s.runway.frozen = false → clearWay u c p.1 →
      ∃ t v dev, exec (.craneStatus c st) s = .next t ∧ (t.weighing.cranes.get c).session = none
        ∧ t.findCoil k.id = some { k with measured := some ⟨r, .crane c, s.clock⟩ }
        ∧ (dev = true ↔ (s.layout.committed.tuning.deviation * k.declared : Int) < 100 * |r - k.declared|)
        ∧ t.findMove n = some v ∧ v.weigh = some ⟨.stable, some r⟩ ∧ v.state = .active ∧ v.phase = some .travelDest ∧ v.dest = .slot a
        ∧ t.runway.claims = s.runway.claims.set c (some (travelClaimed u c p.1)) ∧ sendsAt s t c .travel p
        ∧ t.link.notices = (s.noting (.coilWeighed n k.id c .stable (some r) true none dev)).link.notices ∧ t.yard = s.yard)
    ∧ (∀ a, settled W B win → r < E → m.dest = .slot a → a.tier = .bottom →
      ∃ t v, exec (.craneStatus c st) s = .next t ∧ (t.weighing.cranes.get c).session = none ∧ t.coils = s.coils
        ∧ t.findMove n = some v ∧ v.weigh = some ⟨.stable, some r⟩ ∧ v.state = .faulted ∧ v.phase = some .weigh ∧ v.dest = .slot a
        ∧ v.fault = some ⟨3, 1, s.clock, r.toNat, none, m.causes⟩ ∧ sendsNext s t c .stop
        ∧ t.link.notices = (s.notingAll [.coilWeighed n k.id c .stable (some r) false (some .belowEmpty) false,
            .faultOpened (.move n) 3 1 r.toNat none none false, .moveState n m.kind m.coil .faulted (some .weigh) (some c)]).link.notices
        ∧ t.yard = s.yard ∧ t.runway.claims = s.runway.claims)
    ∧ ∀ a, settled W B win → (E : Int) ≤ r → (e.swl : Int) < r → m.dest = .slot a → a.tier = .bottom →
      ∃ t v, exec (.craneStatus c st) s = .next t ∧ (t.weighing.cranes.get c).session = none ∧ t.coils = s.coils
        ∧ t.findMove n = some v ∧ v.weigh = some ⟨.stable, some r⟩ ∧ v.state = .held ∧ v.causes = { m.causes with crane := true }
        ∧ v.phase = some .weigh ∧ v.dest = .slot a
        ∧ (t.cranes.get c).service = .out ∧ (t.cranes.get c).fault = some ⟨2, 2, s.clock, 3, none, {}⟩ ∧ sendsNext s t c .stop
        ∧ t.link.notices = (s.notingAll [.coilWeighed n k.id c .stable (some r) false (some .aboveSwl) false,
            .faultOpened (.crane c) 2 2 3 none none false, .craneState c .out .fault,
            .moveState n m.kind m.coil .held (some .weigh) (some c)]).link.notices
        ∧ t.yard = s.yard ∧ t.runway.claims = s.runway.claims

/-- The weight used of the coils on the LOADED cradles of a visit. -/
def loadedWeight (s : State) (v : Visit) : Int :=
  (v.cradles.filterMap fun k => match k.state with | .loaded id _ => (s.findCoil id).map (·.used) | _ => none).sum

/-- G, E and T of a comparison (R168): E the measured tare and the weights on the LOADED cradles, T 40 kg or E / 200. -/
def compared (s : State) (v : Visit) (tare g : Kg) : Verification :=
  ⟨g, tare + loadedWeight s v, max 40 ((tare + loadedWeight s v) / 200)⟩

/-- A visit with the set-down delta of an entry and a new last gross (R166). -/
def withDelta (v : Visit) (i : Nat) (g last : Kg) : Visit :=
  { v with lastGross := some g, plan := v.plan.mapIdx fun j e => if j + 1 = i then { e with delta := some (g - last) } else e }

/-- A READY scan while a session of the bay stands in WINDOW: the gross load, or K for a ZERO session, enters the window, and while it is not stable
nothing else changes. When it is stable, the session ends with the window's result at 20 kg. A TARE gives the measured tare and the last gross and
makes the visit READY, or DISCREPANCY above G_max. A ZERO sets the trim, up to 2 % of the capacity, else reports ZERO_RANGE. A GROSS compares G with E
within T and makes the visit VERIFIED or DISCREPANCY. A RECHECK compares in the same way: a pass makes the visit LOADING again, a failure makes it
DISCREPANCY, a QUEUED move of a coil in a slot being cancelled with its entry WITHDRAWN. A SETDOWN records the delta and the last gross; with every
entry ended the visit becomes VERIFYING and, at a secured bay, its GROSS session starts. That a failed RECHECK sets the last gross is the model's reading
(notes/assumptions/30.md), as is the kind in the notices of a ZERO (notes/assumptions/37.md) (R65, R66, R74, R78, R152, R160, R161, R162, R166, R168, R169, R170). -/
def Obligations.BaySessionResults : Prop :=
  ∀ (s : State) (b : BayId) (c1 c2 c3 c4 : Int) (e : BayEntry) (x : Session) (k g r : Kg) (win : List Kg) (W B : Nat) (u : State),
    s.layout.committed.bays.get b = some e → 5 ≤ (s.weighing.bays.get b).warm → (∀ c ∈ [c1, c2, c3, c4], c ≠ 8388607 ∧ c ≠ -8388608) →
    k = bayKg e c1 c2 c3 c4 → -99999 ≤ k → k ≤ 199999 → g = k - (s.weighing.bays.get b).trim → g ≤ e.capacity →
    (s.weighing.bays.get b).session = some x → x.stage = .window → (s.bays.get b).waiting = [] → s.link.mode ≠ .stopped →
    W = s.layout.committed.tuning.window → B = s.layout.committed.tuning.band →
    win = entered W x.window (if x.kind = .zero then k else g) → r = windowResult 20 W win →
    u = (withScale s b { s.weighing.bays.get b with state := .ready, last := some ⟨g, false, false⟩, session := none }).notingAll
      (if (s.weighing.bays.get b).state = .ready then [] else [.scaleState b .ready (some x.kind) .state none]) →
    (¬ settled W B win → exec (.bayScan b c1 c2 c3 c4) s = .next (State.after (withBaySession u b (some { x with window := win }))))
    ∧ (settled W B win → x.kind = .zero →
      ((|r| ≤ (e.capacity : Int) / 50 → exec (.bayScan b c1 c2 c3 c4) s = .next (State.after
          ((withScale u b { u.weighing.bays.get b with trim := r }).noting (.scaleState b .ready (some .zero) .zeroed (some r)))))
        ∧ ((e.capacity : Int) / 50 < |r| → exec (.bayScan b c1 c2 c3 c4) s = .next (State.after
          (u.noting (.scaleState b .ready (some .zero) .zeroRange (some r)))))))
    ∧ ∀ v, settled W B win → (s.bays.get b).visit = some v →
      (x.kind = .tare →
        (r ≤ v.gMax → exec (.bayScan b c1 c2 c3 c4) s = .next (State.after
          ((withVisit u b (some { v with tare := some (r, s.clock), lastGross := some r, state := .ready })).noting
            (.truckState b v.truck (some .ready) .tared none))))
        ∧ ((v.gMax : Int) < r → exec (.bayScan b c1 c2 c3 c4) s = .next (State.after
          ((withVisit u b (some { v with tare := some (r, s.clock), lastGross := some r, state := .discrepancy })).noting
            (.truckState b v.truck (some .discrepancy) .tareOver none)))))
      ∧ ∀ (tare : Kg) (time : Nat) (y : Verification), v.tare = some (tare, time) → y = compared s v tare r →
        (x.kind = .gross → ∀ z, (|y.g - y.e| ≤ y.t → z = .verified) → (y.t < |y.g - y.e| → z = .discrepancy) →
          exec (.bayScan b c1 c2 c3 c4) s = .next (State.after
            ((withVisit u b (some { v with verification := some y, lastGross := some r, state := z })).noting
              (.truckState b v.truck (some z) .gross (some y)))))
        ∧ (x.kind = .recheck →
          ((|y.g - y.e| ≤ y.t → (∃ q ∈ v.plan, q.state = .planned ∨ q.state = .moving) → exec (.bayScan b c1 c2 c3 c4) s = .next (State.after
              ((withVisit u b (some { v with verification := some y, lastGross := some r, state := .loading })).noting
                (.truckState b v.truck (some .loading) .recheckPass (some y)))))
            ∧ (y.t < |y.g - y.e| → (∀ q ∈ v.plan, q.state ≠ .planned ∧ q.state ≠ .moving) →
              exec (.bayScan b c1 c2 c3 c4) s = .next (State.after
                ((withVisit u b (some { v with verification := some y, lastGross := some r, state := .discrepancy })).noting
                  (.truckState b v.truck (some .discrepancy) .recheckFail (some y)))))
            ∧ ∀ (q : Entry) (o : Coil) (a : SlotAddr) (i : Nat) (f : Cradle) (m : Move), y.t < |y.g - y.e| → v.plan = [q] → q.state = .planned →
              q.coil = o.id → s.findCoil o.id = some o → o.loc = .slot a → a.pos ≤ 12 → v.cradles[i]? = some f → f.state = .reserved q.move →
              s.findMove q.move = some m → m.state = .queued → m.kind = .toTruck → m.coil = some o.id → m.source = some (.slot a) →
              m.dest = .cradle b (i + 1) → m.crane = none → m.fault = none → s.slot a = some (.reservedOut q.move o.id) →
              (∀ w ∈ s.moves.table.vals, q.move ∉ w.waits ∧ w.digFor ≠ some q.move) →
              ∃ t p, exec (.bayScan b c1 c2 c3 c4) s = .next t ∧ t.findMove q.move = none ∧ t.slot a = some (.occupied o.id)
                ∧ (t.bays.get b).visit = some p ∧ p.state = .discrepancy ∧ p.verification = some y ∧ p.lastGross = some r
                ∧ p.plan = [{ q with state := .withdrawn }] ∧ (p.cradles[i]?).map (·.state) = some .free
                ∧ (∃ h, t.findCoil o.id = some h ∧ h.loc = .slot a ∧ h.visit = none ∧ (o.active = some q.move → h.active = none))
                ∧ t.moves.queue = s.moves.queue.filter (fun n => n != q.move) ∧ t.sent = [] ∧ t.runway.claims = s.runway.claims
                ∧ t.link.notices = (u.notingAll [.truckState b v.truck (some .discrepancy) .recheckFail (some y),
                    .planEntry b v.truck 1 o.id q.cradle .withdrawn .withdrawn q.delta,
                    .moveState q.move .toTruck (some o.id) .cancelled none none]).link.notices))
        ∧ ∀ (i : Nat) (q : Entry) (last : Kg), x.kind = .setdown → x.entry = some (i + 1) → v.plan[i]? = some q → v.lastGross = some last →
          v.state = .loading →
          ((∃ q ∈ v.plan, q.state = .planned ∨ q.state = .moving) → exec (.bayScan b c1 c2 c3 c4) s = .next (State.after
            ((withVisit u b (some (withDelta v (i + 1) r last))).noting
              (.planEntry b v.truck (i + 1) q.coil q.cradle q.state .setdown (some (r - last))))))
          ∧ ((∀ q ∈ v.plan, q.state ≠ .planned ∧ q.state ≠ .moving) → (s.bays.get b).inPosition = true → (s.bays.get b).safe = true →
            exec (.bayScan b c1 c2 c3 c4) s = .next (State.after
              ((withBaySession (withVisit u b (some { withDelta v (i + 1) r last with state := .verifying })) b
                (some { kind := .gross, started := s.clock })).notingAll
                [.planEntry b v.truck (i + 1) q.coil q.cradle q.state .setdown (some (r - last)),
                  .truckState b v.truck (some .verifying) .loadedAll none])))

end
end

