-- ==== Sys2Proof/Laws/State.lean ====
section
/-! SUPPORT. One lemma per field per update of the records an event works on, each true by `rfl`, and the tables of cranes, bays and
entries, so that no later proof unfolds a record update. -/

namespace Sys2Proof.Machine

/-! ### Tables of cranes and bays -/

section
variable {α β : Type}

@[simp] theorem PerCrane.get_set_self (p : PerCrane α) (c : CraneId) (v : α) : (p.set c v).get c = v := by cases c <;> rfl

theorem PerCrane.get_set_ne (p : PerCrane α) {c d : CraneId} (v : α) (h : d ≠ c) : (p.set c v).get d = p.get d := by
  cases c <;> cases d <;> first | rfl | exact absurd rfl h

@[simp] theorem PerCrane.get_all (v : α) (c : CraneId) : (PerCrane.all v).get c = v := by cases c <;> rfl

@[simp] theorem PerCrane.get_map (p : PerCrane α) (f : CraneId → α → β) (c : CraneId) : (p.map f).get c = f c (p.get c) := by
  cases c <;> rfl

/-- Two tables of cranes with the same value at each crane are the same. -/
theorem PerCrane.ext_get {p q : PerCrane α} (h : ∀ c, p.get c = q.get c) : p = q := by
  cases p; cases q
  simp only [PerCrane.mk.injEq]
  exact ⟨h .c1, h .c2, h .c3, h .c4⟩

@[simp] theorem PerBay.get_set_self (p : PerBay α) (b : BayId) (v : α) : (p.set b v).get b = v := by cases b <;> rfl

theorem PerBay.get_set_ne (p : PerBay α) {b d : BayId} (v : α) (h : d ≠ b) : (p.set b v).get d = p.get d := by
  cases b <;> cases d <;> first | rfl | exact absurd rfl h

@[simp] theorem PerBay.get_all (v : α) (b : BayId) : (PerBay.all v).get b = v := by cases b <;> rfl

@[simp] theorem PerBay.get_map (p : PerBay α) (f : BayId → α → β) (b : BayId) : (p.map f).get b = f b (p.get b) := by
  cases b <;> rfl

/-- Two tables of bays with the same value at each bay are the same. -/
theorem PerBay.ext_get {p q : PerBay α} (h : ∀ b, p.get b = q.get b) : p = q := by
  cases p; cases q
  simp only [PerBay.mk.injEq]
  exact ⟨h .b1, h .b2⟩

/-! ### Tables of entries -/

/-- What is put is read back. -/
@[simp] theorem Table.get?_put_self (t : Table α) (i : Nat) (v : α) : (t.put i v).get? i = some v := by
  induction t with
  | nil => simp [Table.put, Table.get?]
  | cons e t ih =>
    obtain ⟨j, u⟩ := e
    simp only [Table.put]
    split
    · simp [Table.get?]
    · split
      · simp [Table.get?]
      · next h => simp [Table.get?, Ne.symm h, ih]

/-- Every other entry reads as before. -/
theorem Table.get?_put_ne (t : Table α) {i k : Nat} (v : α) (h : k ≠ i) : (t.put i v).get? k = t.get? k := by
  induction t with
  | nil => simp [Table.put, Table.get?, Ne.symm h]
  | cons e t ih =>
    obtain ⟨j, u⟩ := e
    simp only [Table.put]
    split
    · simp [Table.get?, Ne.symm h]
    · split
      · next e => subst e; simp [Table.get?, Ne.symm h]
      · simp [Table.get?, ih]

/-- An erased entry is empty. -/
@[simp] theorem Table.get?_erase_self (t : Table α) (i : Nat) : (t.erase i).get? i = none := by
  unfold Table.erase
  induction t with
  | nil => rfl
  | cons e t ih =>
    obtain ⟨j, u⟩ := e
    by_cases h : j = i
    · simp [h, ih]
    · simp [h, Table.get?, ih]

/-- Every other entry reads as before. -/
theorem Table.get?_erase_ne (t : Table α) {i k : Nat} (h : k ≠ i) : (t.erase i).get? k = t.get? k := by
  unfold Table.erase
  induction t with
  | nil => rfl
  | cons e t ih =>
    obtain ⟨j, u⟩ := e
    by_cases hj : j = i
    · subst hj; simp [Table.get?, Ne.symm h, ih]
    · simp [hj, Table.get?, ih]

/-- A function over the contents. -/
@[simp] theorem Table.get?_mapVals (t : Table α) (f : α → α) (i : Nat) : (t.mapVals f).get? i = (t.get? i).map f := by
  unfold Table.mapVals
  induction t with
  | nil => rfl
  | cons e t ih =>
    obtain ⟨j, u⟩ := e
    by_cases h : j = i
    · simp [Table.get?, h]
    · simp [Table.get?, h, ih]

@[simp] theorem Table.length_mapVals (t : Table α) (f : α → α) : (t.mapVals f).length = t.length := by simp [Table.mapVals]

/-- A put adds at most one entry. -/
theorem Table.length_put_le (t : Table α) (i : Nat) (v : α) : (t.put i v).length ≤ t.length + 1 := by
  induction t with
  | nil => simp [Table.put]
  | cons e t ih =>
    obtain ⟨j, u⟩ := e
    simp only [Table.put]
    split
    · simp
    · split <;> simp; omega

/-- A put keeps the keys rising. -/
theorem Table.wf_put {t : Table α} (h : t.wf = true) (i : Nat) (v : α) : (t.put i v).wf = true := by
  have key : ∀ (t : Table α) (k : Nat), k < i → t.all (fun e => decide (k < e.1)) = true →
      (t.put i v).all (fun e => decide (k < e.1)) = true := by
    intro t k hk
    induction t with
    | nil => simp [Table.put, hk]
    | cons e t ih =>
      obtain ⟨j, u⟩ := e
      intro h
      simp only [List.all_cons, Bool.and_eq_true, decide_eq_true_eq] at h
      simp only [Table.put]
      split
      · simp only [List.all_cons, Bool.and_eq_true, decide_eq_true_eq]; exact ⟨hk, h.1, h.2⟩
      · split
        · simp only [List.all_cons, Bool.and_eq_true, decide_eq_true_eq]; exact ⟨hk, h.2⟩
        · simp only [List.all_cons, Bool.and_eq_true, decide_eq_true_eq]; exact ⟨h.1, ih h.2⟩
  induction t with
  | nil => simp [Table.put, Table.wf]
  | cons e t ih =>
    obtain ⟨j, u⟩ := e
    simp only [Table.wf, Bool.and_eq_true] at h
    simp only [Table.put]
    split
    · next hij =>
      simp only [Table.wf, List.all_cons, Bool.and_eq_true, decide_eq_true_eq]
      refine ⟨⟨hij, ?_⟩, h.1, h.2⟩
      simp only [List.all_eq_true, decide_eq_true_eq] at h ⊢
      exact fun e he => Nat.lt_trans hij (h.1 e he)
    · split
      · next _ hij => subst hij; simp only [Table.wf, Bool.and_eq_true]; exact h
      · next h1 h2 =>
        simp only [Table.wf, Bool.and_eq_true]
        exact ⟨key t j (by omega) h.1, ih h.2⟩

/-- What stands in a table after a put stood there before or is what was put. -/
theorem Table.mem_put {t : Table α} {i : Nat} {v : α} {e : Nat × α} (h : e ∈ t.put i v) : e = (i, v) ∨ e ∈ t := by
  induction t with
  | nil => exact .inl (by simpa [Table.put] using h)
  | cons x t ih =>
    obtain ⟨j, u⟩ := x
    simp only [Table.put] at h
    split at h
    · simpa using h
    · split at h
      · rcases List.mem_cons.1 h with h | h
        · exact .inl h
        · exact .inr (List.mem_cons_of_mem _ h)
      · rcases List.mem_cons.1 h with h | h
        · exact .inr (h ▸ List.mem_cons_self)
        · exact (ih h).imp id (List.mem_cons_of_mem _)

/-- An erasure keeps the keys rising. -/
theorem Table.wf_filter {t : Table α} (h : t.wf = true) (p : Nat × α → Bool) : Table.wf (t.filter p) = true := by
  induction t with
  | nil => rfl
  | cons e t ih =>
    obtain ⟨j, u⟩ := e
    simp only [Table.wf, Bool.and_eq_true] at h
    by_cases hp : p (j, u)
    · simp only [List.filter_cons, hp, if_true, Table.wf, Bool.and_eq_true]
      refine ⟨?_, ih h.2⟩
      simp only [List.all_eq_true] at h ⊢
      exact fun e he => h.1 e (List.mem_of_mem_filter he)
    · simp only [List.filter_cons, hp]; exact ih h.2

/-- A function over the contents keeps the keys rising. -/
theorem Table.wf_mapVals {t : Table α} (h : t.wf = true) (f : α → α) : (t.mapVals f).wf = true := by
  induction t with
  | nil => rfl
  | cons e t ih =>
    obtain ⟨j, u⟩ := e
    simp only [Table.wf, Bool.and_eq_true] at h
    simp only [Table.mapVals, List.map_cons, Table.wf, Bool.and_eq_true]
    refine ⟨?_, ih h.2⟩
    simp only [List.all_eq_true, decide_eq_true_eq] at h ⊢
    intro e he
    obtain ⟨x, hx, rfl⟩ := List.mem_map.1 he
    exact h.1 x hx

end

/-! ### Updates of an event -/

section
variable (w : Work)

@[simp] theorem Work.notice_power (b : NoticeBody) : (w.notice b).power = w.power := rfl
@[simp] theorem Work.notice_layout (b : NoticeBody) : (w.notice b).layout = w.layout := rfl
@[simp] theorem Work.notice_yard (b : NoticeBody) : (w.notice b).yard = w.yard := rfl
@[simp] theorem Work.notice_coils (b : NoticeBody) : (w.notice b).coils = w.coils := rfl
@[simp] theorem Work.notice_weighing (b : NoticeBody) : (w.notice b).weighing = w.weighing := rfl
@[simp] theorem Work.notice_cranes (b : NoticeBody) : (w.notice b).cranes = w.cranes := rfl
@[simp] theorem Work.notice_moves (b : NoticeBody) : (w.notice b).moves = w.moves := rfl
@[simp] theorem Work.notice_runway (b : NoticeBody) : (w.notice b).runway = w.runway := rfl
@[simp] theorem Work.notice_bays (b : NoticeBody) : (w.notice b).bays = w.bays := rfl
@[simp] theorem Work.notice_coordFault (b : NoticeBody) : (w.notice b).coordFault = w.coordFault := rfl
@[simp] theorem Work.notice_clock (b : NoticeBody) : (w.notice b).clock = w.clock := rfl
@[simp] theorem Work.notice_link (b : NoticeBody) : (w.notice b).link = w.link := rfl
@[simp] theorem Work.notice_leds (b : NoticeBody) : (w.notice b).leds = w.leds := rfl
@[simp] theorem Work.notice_sent (b : NoticeBody) : (w.notice b).sent = w.sent := rfl
@[simp] theorem Work.notice_eventNo (b : NoticeBody) : (w.notice b).eventNo = w.eventNo := rfl
@[simp] theorem Work.notice_pending (b : NoticeBody) : (w.notice b).pending = w.pending := rfl
@[simp] theorem Work.notice_orders (b : NoticeBody) : (w.notice b).orders = w.orders := rfl
@[simp] theorem Work.notice_retry (b : NoticeBody) : (w.notice b).retry = w.retry := rfl
@[simp] theorem Work.notice_pop (b : NoticeBody) : (w.notice b).pop = w.pop := rfl
@[simp] theorem Work.notice_dispatch (b : NoticeBody) : (w.notice b).dispatch = w.dispatch := rfl
@[simp] theorem Work.notice_grant (b : NoticeBody) : (w.notice b).grant = w.grant := rfl
@[simp] theorem Work.notice_test (b : NoticeBody) : (w.notice b).test = w.test := rfl

@[simp] theorem Work.modCrane_power (c : CraneId) (f : CraneRec → CraneRec) : (w.modCrane c f).power = w.power := rfl
@[simp] theorem Work.modCrane_layout (c : CraneId) (f : CraneRec → CraneRec) : (w.modCrane c f).layout = w.layout := rfl
@[simp] theorem Work.modCrane_yard (c : CraneId) (f : CraneRec → CraneRec) : (w.modCrane c f).yard = w.yard := rfl
@[simp] theorem Work.modCrane_coils (c : CraneId) (f : CraneRec → CraneRec) : (w.modCrane c f).coils = w.coils := rfl
@[simp] theorem Work.modCrane_weighing (c : CraneId) (f : CraneRec → CraneRec) : (w.modCrane c f).weighing = w.weighing := rfl
@[simp] theorem Work.modCrane_moves (c : CraneId) (f : CraneRec → CraneRec) : (w.modCrane c f).moves = w.moves := rfl
@[simp] theorem Work.modCrane_runway (c : CraneId) (f : CraneRec → CraneRec) : (w.modCrane c f).runway = w.runway := rfl
@[simp] theorem Work.modCrane_bays (c : CraneId) (f : CraneRec → CraneRec) : (w.modCrane c f).bays = w.bays := rfl
@[simp] theorem Work.modCrane_coordFault (c : CraneId) (f : CraneRec → CraneRec) : (w.modCrane c f).coordFault = w.coordFault := rfl
@[simp] theorem Work.modCrane_clock (c : CraneId) (f : CraneRec → CraneRec) : (w.modCrane c f).clock = w.clock := rfl
@[simp] theorem Work.modCrane_link (c : CraneId) (f : CraneRec → CraneRec) : (w.modCrane c f).link = w.link := rfl
@[simp] theorem Work.modCrane_leds (c : CraneId) (f : CraneRec → CraneRec) : (w.modCrane c f).leds = w.leds := rfl
@[simp] theorem Work.modCrane_sent (c : CraneId) (f : CraneRec → CraneRec) : (w.modCrane c f).sent = w.sent := rfl
@[simp] theorem Work.modCrane_eventNo (c : CraneId) (f : CraneRec → CraneRec) : (w.modCrane c f).eventNo = w.eventNo := rfl
@[simp] theorem Work.modCrane_pending (c : CraneId) (f : CraneRec → CraneRec) : (w.modCrane c f).pending = w.pending := rfl
@[simp] theorem Work.modCrane_out (c : CraneId) (f : CraneRec → CraneRec) : (w.modCrane c f).out = w.out := rfl
@[simp] theorem Work.modCrane_orders (c : CraneId) (f : CraneRec → CraneRec) : (w.modCrane c f).orders = w.orders := rfl
@[simp] theorem Work.modCrane_retry (c : CraneId) (f : CraneRec → CraneRec) : (w.modCrane c f).retry = w.retry := rfl
@[simp] theorem Work.modCrane_pop (c : CraneId) (f : CraneRec → CraneRec) : (w.modCrane c f).pop = w.pop := rfl
@[simp] theorem Work.modCrane_dispatch (c : CraneId) (f : CraneRec → CraneRec) : (w.modCrane c f).dispatch = w.dispatch := rfl
@[simp] theorem Work.modCrane_grant (c : CraneId) (f : CraneRec → CraneRec) : (w.modCrane c f).grant = w.grant := rfl
@[simp] theorem Work.modCrane_test (c : CraneId) (f : CraneRec → CraneRec) : (w.modCrane c f).test = w.test := rfl

@[simp] theorem Work.modHook_power (c : CraneId) (f : HookScale → HookScale) : (w.modHook c f).power = w.power := rfl
@[simp] theorem Work.modHook_layout (c : CraneId) (f : HookScale → HookScale) : (w.modHook c f).layout = w.layout := rfl
@[simp] theorem Work.modHook_yard (c : CraneId) (f : HookScale → HookScale) : (w.modHook c f).yard = w.yard := rfl
@[simp] theorem Work.modHook_coils (c : CraneId) (f : HookScale → HookScale) : (w.modHook c f).coils = w.coils := rfl
@[simp] theorem Work.modHook_cranes (c : CraneId) (f : HookScale → HookScale) : (w.modHook c f).cranes = w.cranes := rfl
@[simp] theorem Work.modHook_moves (c : CraneId) (f : HookScale → HookScale) : (w.modHook c f).moves = w.moves := rfl
@[simp] theorem Work.modHook_runway (c : CraneId) (f : HookScale → HookScale) : (w.modHook c f).runway = w.runway := rfl
@[simp] theorem Work.modHook_bays (c : CraneId) (f : HookScale → HookScale) : (w.modHook c f).bays = w.bays := rfl
@[simp] theorem Work.modHook_coordFault (c : CraneId) (f : HookScale → HookScale) : (w.modHook c f).coordFault = w.coordFault := rfl
@[simp] theorem Work.modHook_clock (c : CraneId) (f : HookScale → HookScale) : (w.modHook c f).clock = w.clock := rfl
@[simp] theorem Work.modHook_link (c : CraneId) (f : HookScale → HookScale) : (w.modHook c f).link = w.link := rfl
@[simp] theorem Work.modHook_leds (c : CraneId) (f : HookScale → HookScale) : (w.modHook c f).leds = w.leds := rfl
@[simp] theorem Work.modHook_sent (c : CraneId) (f : HookScale → HookScale) : (w.modHook c f).sent = w.sent := rfl
@[simp] theorem Work.modHook_eventNo (c : CraneId) (f : HookScale → HookScale) : (w.modHook c f).eventNo = w.eventNo := rfl
@[simp] theorem Work.modHook_pending (c : CraneId) (f : HookScale → HookScale) : (w.modHook c f).pending = w.pending := rfl
@[simp] theorem Work.modHook_out (c : CraneId) (f : HookScale → HookScale) : (w.modHook c f).out = w.out := rfl
@[simp] theorem Work.modHook_orders (c : CraneId) (f : HookScale → HookScale) : (w.modHook c f).orders = w.orders := rfl
@[simp] theorem Work.modHook_retry (c : CraneId) (f : HookScale → HookScale) : (w.modHook c f).retry = w.retry := rfl
@[simp] theorem Work.modHook_pop (c : CraneId) (f : HookScale → HookScale) : (w.modHook c f).pop = w.pop := rfl
@[simp] theorem Work.modHook_dispatch (c : CraneId) (f : HookScale → HookScale) : (w.modHook c f).dispatch = w.dispatch := rfl
@[simp] theorem Work.modHook_grant (c : CraneId) (f : HookScale → HookScale) : (w.modHook c f).grant = w.grant := rfl
@[simp] theorem Work.modHook_test (c : CraneId) (f : HookScale → HookScale) : (w.modHook c f).test = w.test := rfl

@[simp] theorem Work.modScale_power (b : BayId) (f : BayScale → BayScale) : (w.modScale b f).power = w.power := rfl
@[simp] theorem Work.modScale_layout (b : BayId) (f : BayScale → BayScale) : (w.modScale b f).layout = w.layout := rfl
@[simp] theorem Work.modScale_yard (b : BayId) (f : BayScale → BayScale) : (w.modScale b f).yard = w.yard := rfl
@[simp] theorem Work.modScale_coils (b : BayId) (f : BayScale → BayScale) : (w.modScale b f).coils = w.coils := rfl
@[simp] theorem Work.modScale_cranes (b : BayId) (f : BayScale → BayScale) : (w.modScale b f).cranes = w.cranes := rfl
@[simp] theorem Work.modScale_moves (b : BayId) (f : BayScale → BayScale) : (w.modScale b f).moves = w.moves := rfl
@[simp] theorem Work.modScale_runway (b : BayId) (f : BayScale → BayScale) : (w.modScale b f).runway = w.runway := rfl
@[simp] theorem Work.modScale_bays (b : BayId) (f : BayScale → BayScale) : (w.modScale b f).bays = w.bays := rfl
@[simp] theorem Work.modScale_coordFault (b : BayId) (f : BayScale → BayScale) : (w.modScale b f).coordFault = w.coordFault := rfl
@[simp] theorem Work.modScale_clock (b : BayId) (f : BayScale → BayScale) : (w.modScale b f).clock = w.clock := rfl
@[simp] theorem Work.modScale_link (b : BayId) (f : BayScale → BayScale) : (w.modScale b f).link = w.link := rfl
@[simp] theorem Work.modScale_leds (b : BayId) (f : BayScale → BayScale) : (w.modScale b f).leds = w.leds := rfl
@[simp] theorem Work.modScale_sent (b : BayId) (f : BayScale → BayScale) : (w.modScale b f).sent = w.sent := rfl
@[simp] theorem Work.modScale_eventNo (b : BayId) (f : BayScale → BayScale) : (w.modScale b f).eventNo = w.eventNo := rfl
@[simp] theorem Work.modScale_pending (b : BayId) (f : BayScale → BayScale) : (w.modScale b f).pending = w.pending := rfl
@[simp] theorem Work.modScale_out (b : BayId) (f : BayScale → BayScale) : (w.modScale b f).out = w.out := rfl
@[simp] theorem Work.modScale_orders (b : BayId) (f : BayScale → BayScale) : (w.modScale b f).orders = w.orders := rfl
@[simp] theorem Work.modScale_retry (b : BayId) (f : BayScale → BayScale) : (w.modScale b f).retry = w.retry := rfl
@[simp] theorem Work.modScale_pop (b : BayId) (f : BayScale → BayScale) : (w.modScale b f).pop = w.pop := rfl
@[simp] theorem Work.modScale_dispatch (b : BayId) (f : BayScale → BayScale) : (w.modScale b f).dispatch = w.dispatch := rfl
@[simp] theorem Work.modScale_grant (b : BayId) (f : BayScale → BayScale) : (w.modScale b f).grant = w.grant := rfl
@[simp] theorem Work.modScale_test (b : BayId) (f : BayScale → BayScale) : (w.modScale b f).test = w.test := rfl

@[simp] theorem Work.modBay_power (b : BayId) (f : Bay → Bay) : (w.modBay b f).power = w.power := rfl
@[simp] theorem Work.modBay_layout (b : BayId) (f : Bay → Bay) : (w.modBay b f).layout = w.layout := rfl
@[simp] theorem Work.modBay_yard (b : BayId) (f : Bay → Bay) : (w.modBay b f).yard = w.yard := rfl
@[simp] theorem Work.modBay_coils (b : BayId) (f : Bay → Bay) : (w.modBay b f).coils = w.coils := rfl
@[simp] theorem Work.modBay_weighing (b : BayId) (f : Bay → Bay) : (w.modBay b f).weighing = w.weighing := rfl
@[simp] theorem Work.modBay_cranes (b : BayId) (f : Bay → Bay) : (w.modBay b f).cranes = w.cranes := rfl
@[simp] theorem Work.modBay_moves (b : BayId) (f : Bay → Bay) : (w.modBay b f).moves = w.moves := rfl
@[simp] theorem Work.modBay_runway (b : BayId) (f : Bay → Bay) : (w.modBay b f).runway = w.runway := rfl
@[simp] theorem Work.modBay_coordFault (b : BayId) (f : Bay → Bay) : (w.modBay b f).coordFault = w.coordFault := rfl
@[simp] theorem Work.modBay_clock (b : BayId) (f : Bay → Bay) : (w.modBay b f).clock = w.clock := rfl
@[simp] theorem Work.modBay_link (b : BayId) (f : Bay → Bay) : (w.modBay b f).link = w.link := rfl
@[simp] theorem Work.modBay_leds (b : BayId) (f : Bay → Bay) : (w.modBay b f).leds = w.leds := rfl
@[simp] theorem Work.modBay_sent (b : BayId) (f : Bay → Bay) : (w.modBay b f).sent = w.sent := rfl
@[simp] theorem Work.modBay_eventNo (b : BayId) (f : Bay → Bay) : (w.modBay b f).eventNo = w.eventNo := rfl
@[simp] theorem Work.modBay_pending (b : BayId) (f : Bay → Bay) : (w.modBay b f).pending = w.pending := rfl
@[simp] theorem Work.modBay_out (b : BayId) (f : Bay → Bay) : (w.modBay b f).out = w.out := rfl
@[simp] theorem Work.modBay_orders (b : BayId) (f : Bay → Bay) : (w.modBay b f).orders = w.orders := rfl
@[simp] theorem Work.modBay_retry (b : BayId) (f : Bay → Bay) : (w.modBay b f).retry = w.retry := rfl
@[simp] theorem Work.modBay_pop (b : BayId) (f : Bay → Bay) : (w.modBay b f).pop = w.pop := rfl
@[simp] theorem Work.modBay_dispatch (b : BayId) (f : Bay → Bay) : (w.modBay b f).dispatch = w.dispatch := rfl
@[simp] theorem Work.modBay_grant (b : BayId) (f : Bay → Bay) : (w.modBay b f).grant = w.grant := rfl
@[simp] theorem Work.modBay_test (b : BayId) (f : Bay → Bay) : (w.modBay b f).test = w.test := rfl

@[simp] theorem Work.modVisit_power (b : BayId) (f : Visit → Visit) : (w.modVisit b f).power = w.power := rfl
@[simp] theorem Work.modVisit_layout (b : BayId) (f : Visit → Visit) : (w.modVisit b f).layout = w.layout := rfl
@[simp] theorem Work.modVisit_yard (b : BayId) (f : Visit → Visit) : (w.modVisit b f).yard = w.yard := rfl
@[simp] theorem Work.modVisit_coils (b : BayId) (f : Visit → Visit) : (w.modVisit b f).coils = w.coils := rfl
@[simp] theorem Work.modVisit_weighing (b : BayId) (f : Visit → Visit) : (w.modVisit b f).weighing = w.weighing := rfl
@[simp] theorem Work.modVisit_cranes (b : BayId) (f : Visit → Visit) : (w.modVisit b f).cranes = w.cranes := rfl
@[simp] theorem Work.modVisit_moves (b : BayId) (f : Visit → Visit) : (w.modVisit b f).moves = w.moves := rfl
@[simp] theorem Work.modVisit_runway (b : BayId) (f : Visit → Visit) : (w.modVisit b f).runway = w.runway := rfl
@[simp] theorem Work.modVisit_coordFault (b : BayId) (f : Visit → Visit) : (w.modVisit b f).coordFault = w.coordFault := rfl
@[simp] theorem Work.modVisit_clock (b : BayId) (f : Visit → Visit) : (w.modVisit b f).clock = w.clock := rfl
@[simp] theorem Work.modVisit_link (b : BayId) (f : Visit → Visit) : (w.modVisit b f).link = w.link := rfl
@[simp] theorem Work.modVisit_leds (b : BayId) (f : Visit → Visit) : (w.modVisit b f).leds = w.leds := rfl
@[simp] theorem Work.modVisit_sent (b : BayId) (f : Visit → Visit) : (w.modVisit b f).sent = w.sent := rfl
@[simp] theorem Work.modVisit_eventNo (b : BayId) (f : Visit → Visit) : (w.modVisit b f).eventNo = w.eventNo := rfl
@[simp] theorem Work.modVisit_pending (b : BayId) (f : Visit → Visit) : (w.modVisit b f).pending = w.pending := rfl
@[simp] theorem Work.modVisit_out (b : BayId) (f : Visit → Visit) : (w.modVisit b f).out = w.out := rfl
@[simp] theorem Work.modVisit_orders (b : BayId) (f : Visit → Visit) : (w.modVisit b f).orders = w.orders := rfl
@[simp] theorem Work.modVisit_retry (b : BayId) (f : Visit → Visit) : (w.modVisit b f).retry = w.retry := rfl
@[simp] theorem Work.modVisit_pop (b : BayId) (f : Visit → Visit) : (w.modVisit b f).pop = w.pop := rfl
@[simp] theorem Work.modVisit_dispatch (b : BayId) (f : Visit → Visit) : (w.modVisit b f).dispatch = w.dispatch := rfl
@[simp] theorem Work.modVisit_grant (b : BayId) (f : Visit → Visit) : (w.modVisit b f).grant = w.grant := rfl
@[simp] theorem Work.modVisit_test (b : BayId) (f : Visit → Visit) : (w.modVisit b f).test = w.test := rfl

@[simp] theorem Work.setClaim_power (c : CraneId) (x : Option Claim) : (w.setClaim c x).power = w.power := rfl
@[simp] theorem Work.setClaim_layout (c : CraneId) (x : Option Claim) : (w.setClaim c x).layout = w.layout := rfl
@[simp] theorem Work.setClaim_yard (c : CraneId) (x : Option Claim) : (w.setClaim c x).yard = w.yard := rfl
@[simp] theorem Work.setClaim_coils (c : CraneId) (x : Option Claim) : (w.setClaim c x).coils = w.coils := rfl
@[simp] theorem Work.setClaim_weighing (c : CraneId) (x : Option Claim) : (w.setClaim c x).weighing = w.weighing := rfl
@[simp] theorem Work.setClaim_cranes (c : CraneId) (x : Option Claim) : (w.setClaim c x).cranes = w.cranes := rfl
@[simp] theorem Work.setClaim_moves (c : CraneId) (x : Option Claim) : (w.setClaim c x).moves = w.moves := rfl
@[simp] theorem Work.setClaim_bays (c : CraneId) (x : Option Claim) : (w.setClaim c x).bays = w.bays := rfl
@[simp] theorem Work.setClaim_coordFault (c : CraneId) (x : Option Claim) : (w.setClaim c x).coordFault = w.coordFault := rfl
@[simp] theorem Work.setClaim_clock (c : CraneId) (x : Option Claim) : (w.setClaim c x).clock = w.clock := rfl
@[simp] theorem Work.setClaim_link (c : CraneId) (x : Option Claim) : (w.setClaim c x).link = w.link := rfl
@[simp] theorem Work.setClaim_leds (c : CraneId) (x : Option Claim) : (w.setClaim c x).leds = w.leds := rfl
@[simp] theorem Work.setClaim_sent (c : CraneId) (x : Option Claim) : (w.setClaim c x).sent = w.sent := rfl
@[simp] theorem Work.setClaim_eventNo (c : CraneId) (x : Option Claim) : (w.setClaim c x).eventNo = w.eventNo := rfl
@[simp] theorem Work.setClaim_pending (c : CraneId) (x : Option Claim) : (w.setClaim c x).pending = w.pending := rfl
@[simp] theorem Work.setClaim_out (c : CraneId) (x : Option Claim) : (w.setClaim c x).out = w.out := rfl
@[simp] theorem Work.setClaim_orders (c : CraneId) (x : Option Claim) : (w.setClaim c x).orders = w.orders := rfl
@[simp] theorem Work.setClaim_retry (c : CraneId) (x : Option Claim) : (w.setClaim c x).retry = w.retry := rfl
@[simp] theorem Work.setClaim_pop (c : CraneId) (x : Option Claim) : (w.setClaim c x).pop = w.pop := rfl
@[simp] theorem Work.setClaim_dispatch (c : CraneId) (x : Option Claim) : (w.setClaim c x).dispatch = w.dispatch := rfl
@[simp] theorem Work.setClaim_grant (c : CraneId) (x : Option Claim) : (w.setClaim c x).grant = w.grant := rfl
@[simp] theorem Work.setClaim_test (c : CraneId) (x : Option Claim) : (w.setClaim c x).test = w.test := rfl

@[simp] theorem Work.setWait_power (c : CraneId) (x : Option Wait) : (w.setWait c x).power = w.power := rfl
@[simp] theorem Work.setWait_layout (c : CraneId) (x : Option Wait) : (w.setWait c x).layout = w.layout := rfl
@[simp] theorem Work.setWait_yard (c : CraneId) (x : Option Wait) : (w.setWait c x).yard = w.yard := rfl
@[simp] theorem Work.setWait_coils (c : CraneId) (x : Option Wait) : (w.setWait c x).coils = w.coils := rfl
@[simp] theorem Work.setWait_weighing (c : CraneId) (x : Option Wait) : (w.setWait c x).weighing = w.weighing := rfl
@[simp] theorem Work.setWait_cranes (c : CraneId) (x : Option Wait) : (w.setWait c x).cranes = w.cranes := rfl
@[simp] theorem Work.setWait_moves (c : CraneId) (x : Option Wait) : (w.setWait c x).moves = w.moves := rfl
@[simp] theorem Work.setWait_bays (c : CraneId) (x : Option Wait) : (w.setWait c x).bays = w.bays := rfl
@[simp] theorem Work.setWait_coordFault (c : CraneId) (x : Option Wait) : (w.setWait c x).coordFault = w.coordFault := rfl
@[simp] theorem Work.setWait_clock (c : CraneId) (x : Option Wait) : (w.setWait c x).clock = w.clock := rfl
@[simp] theorem Work.setWait_link (c : CraneId) (x : Option Wait) : (w.setWait c x).link = w.link := rfl
@[simp] theorem Work.setWait_leds (c : CraneId) (x : Option Wait) : (w.setWait c x).leds = w.leds := rfl
@[simp] theorem Work.setWait_sent (c : CraneId) (x : Option Wait) : (w.setWait c x).sent = w.sent := rfl
@[simp] theorem Work.setWait_eventNo (c : CraneId) (x : Option Wait) : (w.setWait c x).eventNo = w.eventNo := rfl
@[simp] theorem Work.setWait_pending (c : CraneId) (x : Option Wait) : (w.setWait c x).pending = w.pending := rfl
@[simp] theorem Work.setWait_out (c : CraneId) (x : Option Wait) : (w.setWait c x).out = w.out := rfl
@[simp] theorem Work.setWait_orders (c : CraneId) (x : Option Wait) : (w.setWait c x).orders = w.orders := rfl
@[simp] theorem Work.setWait_retry (c : CraneId) (x : Option Wait) : (w.setWait c x).retry = w.retry := rfl
@[simp] theorem Work.setWait_pop (c : CraneId) (x : Option Wait) : (w.setWait c x).pop = w.pop := rfl
@[simp] theorem Work.setWait_dispatch (c : CraneId) (x : Option Wait) : (w.setWait c x).dispatch = w.dispatch := rfl
@[simp] theorem Work.setWait_grant (c : CraneId) (x : Option Wait) : (w.setWait c x).grant = w.grant := rfl
@[simp] theorem Work.setWait_test (c : CraneId) (x : Option Wait) : (w.setWait c x).test = w.test := rfl

@[simp] theorem Work.setYield_power (c : CraneId) (x : Option Yield) : (w.setYield c x).power = w.power := rfl
@[simp] theorem Work.setYield_layout (c : CraneId) (x : Option Yield) : (w.setYield c x).layout = w.layout := rfl
@[simp] theorem Work.setYield_yard (c : CraneId) (x : Option Yield) : (w.setYield c x).yard = w.yard := rfl
@[simp] theorem Work.setYield_coils (c : CraneId) (x : Option Yield) : (w.setYield c x).coils = w.coils := rfl
@[simp] theorem Work.setYield_weighing (c : CraneId) (x : Option Yield) : (w.setYield c x).weighing = w.weighing := rfl
@[simp] theorem Work.setYield_cranes (c : CraneId) (x : Option Yield) : (w.setYield c x).cranes = w.cranes := rfl
@[simp] theorem Work.setYield_moves (c : CraneId) (x : Option Yield) : (w.setYield c x).moves = w.moves := rfl
@[simp] theorem Work.setYield_bays (c : CraneId) (x : Option Yield) : (w.setYield c x).bays = w.bays := rfl
@[simp] theorem Work.setYield_coordFault (c : CraneId) (x : Option Yield) : (w.setYield c x).coordFault = w.coordFault := rfl
@[simp] theorem Work.setYield_clock (c : CraneId) (x : Option Yield) : (w.setYield c x).clock = w.clock := rfl
@[simp] theorem Work.setYield_link (c : CraneId) (x : Option Yield) : (w.setYield c x).link = w.link := rfl
@[simp] theorem Work.setYield_leds (c : CraneId) (x : Option Yield) : (w.setYield c x).leds = w.leds := rfl
@[simp] theorem Work.setYield_sent (c : CraneId) (x : Option Yield) : (w.setYield c x).sent = w.sent := rfl
@[simp] theorem Work.setYield_eventNo (c : CraneId) (x : Option Yield) : (w.setYield c x).eventNo = w.eventNo := rfl
@[simp] theorem Work.setYield_pending (c : CraneId) (x : Option Yield) : (w.setYield c x).pending = w.pending := rfl
@[simp] theorem Work.setYield_out (c : CraneId) (x : Option Yield) : (w.setYield c x).out = w.out := rfl
@[simp] theorem Work.setYield_orders (c : CraneId) (x : Option Yield) : (w.setYield c x).orders = w.orders := rfl
@[simp] theorem Work.setYield_retry (c : CraneId) (x : Option Yield) : (w.setYield c x).retry = w.retry := rfl
@[simp] theorem Work.setYield_pop (c : CraneId) (x : Option Yield) : (w.setYield c x).pop = w.pop := rfl
@[simp] theorem Work.setYield_dispatch (c : CraneId) (x : Option Yield) : (w.setYield c x).dispatch = w.dispatch := rfl
@[simp] theorem Work.setYield_grant (c : CraneId) (x : Option Yield) : (w.setYield c x).grant = w.grant := rfl
@[simp] theorem Work.setYield_test (c : CraneId) (x : Option Yield) : (w.setYield c x).test = w.test := rfl

@[simp] theorem Work.modMove_power (n : Nat) (f : Move → Move) : (w.modMove n f).power = w.power := rfl
@[simp] theorem Work.modMove_layout (n : Nat) (f : Move → Move) : (w.modMove n f).layout = w.layout := rfl
@[simp] theorem Work.modMove_yard (n : Nat) (f : Move → Move) : (w.modMove n f).yard = w.yard := rfl
@[simp] theorem Work.modMove_coils (n : Nat) (f : Move → Move) : (w.modMove n f).coils = w.coils := rfl
@[simp] theorem Work.modMove_weighing (n : Nat) (f : Move → Move) : (w.modMove n f).weighing = w.weighing := rfl
@[simp] theorem Work.modMove_cranes (n : Nat) (f : Move → Move) : (w.modMove n f).cranes = w.cranes := rfl
@[simp] theorem Work.modMove_runway (n : Nat) (f : Move → Move) : (w.modMove n f).runway = w.runway := rfl
@[simp] theorem Work.modMove_bays (n : Nat) (f : Move → Move) : (w.modMove n f).bays = w.bays := rfl
@[simp] theorem Work.modMove_coordFault (n : Nat) (f : Move → Move) : (w.modMove n f).coordFault = w.coordFault := rfl
@[simp] theorem Work.modMove_clock (n : Nat) (f : Move → Move) : (w.modMove n f).clock = w.clock := rfl
@[simp] theorem Work.modMove_link (n : Nat) (f : Move → Move) : (w.modMove n f).link = w.link := rfl
@[simp] theorem Work.modMove_leds (n : Nat) (f : Move → Move) : (w.modMove n f).leds = w.leds := rfl
@[simp] theorem Work.modMove_sent (n : Nat) (f : Move → Move) : (w.modMove n f).sent = w.sent := rfl
@[simp] theorem Work.modMove_eventNo (n : Nat) (f : Move → Move) : (w.modMove n f).eventNo = w.eventNo := rfl
@[simp] theorem Work.modMove_pending (n : Nat) (f : Move → Move) : (w.modMove n f).pending = w.pending := rfl
@[simp] theorem Work.modMove_out (n : Nat) (f : Move → Move) : (w.modMove n f).out = w.out := rfl
@[simp] theorem Work.modMove_orders (n : Nat) (f : Move → Move) : (w.modMove n f).orders = w.orders := rfl
@[simp] theorem Work.modMove_retry (n : Nat) (f : Move → Move) : (w.modMove n f).retry = w.retry := rfl
@[simp] theorem Work.modMove_pop (n : Nat) (f : Move → Move) : (w.modMove n f).pop = w.pop := rfl
@[simp] theorem Work.modMove_dispatch (n : Nat) (f : Move → Move) : (w.modMove n f).dispatch = w.dispatch := rfl
@[simp] theorem Work.modMove_grant (n : Nat) (f : Move → Move) : (w.modMove n f).grant = w.grant := rfl
@[simp] theorem Work.modMove_test (n : Nat) (f : Move → Move) : (w.modMove n f).test = w.test := rfl

@[simp] theorem Work.modCoil_power (id : MillId) (f : Coil → Coil) : (w.modCoil id f).power = w.power := rfl
@[simp] theorem Work.modCoil_layout (id : MillId) (f : Coil → Coil) : (w.modCoil id f).layout = w.layout := rfl
@[simp] theorem Work.modCoil_yard (id : MillId) (f : Coil → Coil) : (w.modCoil id f).yard = w.yard := rfl
@[simp] theorem Work.modCoil_weighing (id : MillId) (f : Coil → Coil) : (w.modCoil id f).weighing = w.weighing := rfl
@[simp] theorem Work.modCoil_cranes (id : MillId) (f : Coil → Coil) : (w.modCoil id f).cranes = w.cranes := rfl
@[simp] theorem Work.modCoil_moves (id : MillId) (f : Coil → Coil) : (w.modCoil id f).moves = w.moves := rfl
@[simp] theorem Work.modCoil_runway (id : MillId) (f : Coil → Coil) : (w.modCoil id f).runway = w.runway := rfl
@[simp] theorem Work.modCoil_bays (id : MillId) (f : Coil → Coil) : (w.modCoil id f).bays = w.bays := rfl
@[simp] theorem Work.modCoil_coordFault (id : MillId) (f : Coil → Coil) : (w.modCoil id f).coordFault = w.coordFault := rfl
@[simp] theorem Work.modCoil_clock (id : MillId) (f : Coil → Coil) : (w.modCoil id f).clock = w.clock := rfl
@[simp] theorem Work.modCoil_link (id : MillId) (f : Coil → Coil) : (w.modCoil id f).link = w.link := rfl
@[simp] theorem Work.modCoil_leds (id : MillId) (f : Coil → Coil) : (w.modCoil id f).leds = w.leds := rfl
@[simp] theorem Work.modCoil_sent (id : MillId) (f : Coil → Coil) : (w.modCoil id f).sent = w.sent := rfl
@[simp] theorem Work.modCoil_eventNo (id : MillId) (f : Coil → Coil) : (w.modCoil id f).eventNo = w.eventNo := rfl
@[simp] theorem Work.modCoil_pending (id : MillId) (f : Coil → Coil) : (w.modCoil id f).pending = w.pending := rfl
@[simp] theorem Work.modCoil_out (id : MillId) (f : Coil → Coil) : (w.modCoil id f).out = w.out := rfl
@[simp] theorem Work.modCoil_orders (id : MillId) (f : Coil → Coil) : (w.modCoil id f).orders = w.orders := rfl
@[simp] theorem Work.modCoil_retry (id : MillId) (f : Coil → Coil) : (w.modCoil id f).retry = w.retry := rfl
@[simp] theorem Work.modCoil_pop (id : MillId) (f : Coil → Coil) : (w.modCoil id f).pop = w.pop := rfl
@[simp] theorem Work.modCoil_dispatch (id : MillId) (f : Coil → Coil) : (w.modCoil id f).dispatch = w.dispatch := rfl
@[simp] theorem Work.modCoil_grant (id : MillId) (f : Coil → Coil) : (w.modCoil id f).grant = w.grant := rfl
@[simp] theorem Work.modCoil_test (id : MillId) (f : Coil → Coil) : (w.modCoil id f).test = w.test := rfl

@[simp] theorem Work.putSlot_power (a : SlotAddr) (x : SlotState) : (w.putSlot a x).power = w.power := rfl
@[simp] theorem Work.putSlot_layout (a : SlotAddr) (x : SlotState) : (w.putSlot a x).layout = w.layout := rfl
@[simp] theorem Work.putSlot_coils (a : SlotAddr) (x : SlotState) : (w.putSlot a x).coils = w.coils := rfl
@[simp] theorem Work.putSlot_weighing (a : SlotAddr) (x : SlotState) : (w.putSlot a x).weighing = w.weighing := rfl
@[simp] theorem Work.putSlot_cranes (a : SlotAddr) (x : SlotState) : (w.putSlot a x).cranes = w.cranes := rfl
@[simp] theorem Work.putSlot_moves (a : SlotAddr) (x : SlotState) : (w.putSlot a x).moves = w.moves := rfl
@[simp] theorem Work.putSlot_runway (a : SlotAddr) (x : SlotState) : (w.putSlot a x).runway = w.runway := rfl
@[simp] theorem Work.putSlot_bays (a : SlotAddr) (x : SlotState) : (w.putSlot a x).bays = w.bays := rfl
@[simp] theorem Work.putSlot_coordFault (a : SlotAddr) (x : SlotState) : (w.putSlot a x).coordFault = w.coordFault := rfl
@[simp] theorem Work.putSlot_clock (a : SlotAddr) (x : SlotState) : (w.putSlot a x).clock = w.clock := rfl
@[simp] theorem Work.putSlot_link (a : SlotAddr) (x : SlotState) : (w.putSlot a x).link = w.link := rfl
@[simp] theorem Work.putSlot_leds (a : SlotAddr) (x : SlotState) : (w.putSlot a x).leds = w.leds := rfl
@[simp] theorem Work.putSlot_sent (a : SlotAddr) (x : SlotState) : (w.putSlot a x).sent = w.sent := rfl
@[simp] theorem Work.putSlot_eventNo (a : SlotAddr) (x : SlotState) : (w.putSlot a x).eventNo = w.eventNo := rfl
@[simp] theorem Work.putSlot_pending (a : SlotAddr) (x : SlotState) : (w.putSlot a x).pending = w.pending := rfl
@[simp] theorem Work.putSlot_out (a : SlotAddr) (x : SlotState) : (w.putSlot a x).out = w.out := rfl
@[simp] theorem Work.putSlot_orders (a : SlotAddr) (x : SlotState) : (w.putSlot a x).orders = w.orders := rfl
@[simp] theorem Work.putSlot_retry (a : SlotAddr) (x : SlotState) : (w.putSlot a x).retry = w.retry := rfl
@[simp] theorem Work.putSlot_pop (a : SlotAddr) (x : SlotState) : (w.putSlot a x).pop = w.pop := rfl
@[simp] theorem Work.putSlot_dispatch (a : SlotAddr) (x : SlotState) : (w.putSlot a x).dispatch = w.dispatch := rfl
@[simp] theorem Work.putSlot_grant (a : SlotAddr) (x : SlotState) : (w.putSlot a x).grant = w.grant := rfl
@[simp] theorem Work.putSlot_test (a : SlotAddr) (x : SlotState) : (w.putSlot a x).test = w.test := rfl

@[simp] theorem Work.freeSlot_power (a : SlotAddr) : (w.freeSlot a).power = w.power := rfl
@[simp] theorem Work.freeSlot_layout (a : SlotAddr) : (w.freeSlot a).layout = w.layout := rfl
@[simp] theorem Work.freeSlot_coils (a : SlotAddr) : (w.freeSlot a).coils = w.coils := rfl
@[simp] theorem Work.freeSlot_weighing (a : SlotAddr) : (w.freeSlot a).weighing = w.weighing := rfl
@[simp] theorem Work.freeSlot_cranes (a : SlotAddr) : (w.freeSlot a).cranes = w.cranes := rfl
@[simp] theorem Work.freeSlot_moves (a : SlotAddr) : (w.freeSlot a).moves = w.moves := rfl
@[simp] theorem Work.freeSlot_runway (a : SlotAddr) : (w.freeSlot a).runway = w.runway := rfl
@[simp] theorem Work.freeSlot_bays (a : SlotAddr) : (w.freeSlot a).bays = w.bays := rfl
@[simp] theorem Work.freeSlot_coordFault (a : SlotAddr) : (w.freeSlot a).coordFault = w.coordFault := rfl
@[simp] theorem Work.freeSlot_clock (a : SlotAddr) : (w.freeSlot a).clock = w.clock := rfl
@[simp] theorem Work.freeSlot_link (a : SlotAddr) : (w.freeSlot a).link = w.link := rfl
@[simp] theorem Work.freeSlot_leds (a : SlotAddr) : (w.freeSlot a).leds = w.leds := rfl
@[simp] theorem Work.freeSlot_sent (a : SlotAddr) : (w.freeSlot a).sent = w.sent := rfl
@[simp] theorem Work.freeSlot_eventNo (a : SlotAddr) : (w.freeSlot a).eventNo = w.eventNo := rfl
@[simp] theorem Work.freeSlot_pending (a : SlotAddr) : (w.freeSlot a).pending = w.pending := rfl
@[simp] theorem Work.freeSlot_out (a : SlotAddr) : (w.freeSlot a).out = w.out := rfl
@[simp] theorem Work.freeSlot_orders (a : SlotAddr) : (w.freeSlot a).orders = w.orders := rfl
@[simp] theorem Work.freeSlot_retry (a : SlotAddr) : (w.freeSlot a).retry = w.retry := rfl
@[simp] theorem Work.freeSlot_pop (a : SlotAddr) : (w.freeSlot a).pop = w.pop := rfl
@[simp] theorem Work.freeSlot_dispatch (a : SlotAddr) : (w.freeSlot a).dispatch = w.dispatch := rfl
@[simp] theorem Work.freeSlot_grant (a : SlotAddr) : (w.freeSlot a).grant = w.grant := rfl
@[simp] theorem Work.freeSlot_test (a : SlotAddr) : (w.freeSlot a).test = w.test := rfl

@[simp] theorem Work.joinQueue_power (n : Nat) : (w.joinQueue n).power = w.power := rfl
@[simp] theorem Work.joinQueue_layout (n : Nat) : (w.joinQueue n).layout = w.layout := rfl
@[simp] theorem Work.joinQueue_yard (n : Nat) : (w.joinQueue n).yard = w.yard := rfl
@[simp] theorem Work.joinQueue_coils (n : Nat) : (w.joinQueue n).coils = w.coils := rfl
@[simp] theorem Work.joinQueue_weighing (n : Nat) : (w.joinQueue n).weighing = w.weighing := rfl
@[simp] theorem Work.joinQueue_cranes (n : Nat) : (w.joinQueue n).cranes = w.cranes := rfl
@[simp] theorem Work.joinQueue_runway (n : Nat) : (w.joinQueue n).runway = w.runway := rfl
@[simp] theorem Work.joinQueue_bays (n : Nat) : (w.joinQueue n).bays = w.bays := rfl
@[simp] theorem Work.joinQueue_coordFault (n : Nat) : (w.joinQueue n).coordFault = w.coordFault := rfl
@[simp] theorem Work.joinQueue_clock (n : Nat) : (w.joinQueue n).clock = w.clock := rfl
@[simp] theorem Work.joinQueue_link (n : Nat) : (w.joinQueue n).link = w.link := rfl
@[simp] theorem Work.joinQueue_leds (n : Nat) : (w.joinQueue n).leds = w.leds := rfl
@[simp] theorem Work.joinQueue_sent (n : Nat) : (w.joinQueue n).sent = w.sent := rfl
@[simp] theorem Work.joinQueue_eventNo (n : Nat) : (w.joinQueue n).eventNo = w.eventNo := rfl
@[simp] theorem Work.joinQueue_pending (n : Nat) : (w.joinQueue n).pending = w.pending := rfl
@[simp] theorem Work.joinQueue_out (n : Nat) : (w.joinQueue n).out = w.out := rfl
@[simp] theorem Work.joinQueue_orders (n : Nat) : (w.joinQueue n).orders = w.orders := rfl
@[simp] theorem Work.joinQueue_retry (n : Nat) : (w.joinQueue n).retry = w.retry := rfl
@[simp] theorem Work.joinQueue_pop (n : Nat) : (w.joinQueue n).pop = w.pop := rfl
@[simp] theorem Work.joinQueue_grant (n : Nat) : (w.joinQueue n).grant = w.grant := rfl
@[simp] theorem Work.joinQueue_test (n : Nat) : (w.joinQueue n).test = w.test := rfl

@[simp] theorem Work.returnToQueue_power (l : List Nat) : (w.returnToQueue l).power = w.power := rfl
@[simp] theorem Work.returnToQueue_layout (l : List Nat) : (w.returnToQueue l).layout = w.layout := rfl
@[simp] theorem Work.returnToQueue_yard (l : List Nat) : (w.returnToQueue l).yard = w.yard := rfl
@[simp] theorem Work.returnToQueue_coils (l : List Nat) : (w.returnToQueue l).coils = w.coils := rfl
@[simp] theorem Work.returnToQueue_weighing (l : List Nat) : (w.returnToQueue l).weighing = w.weighing := rfl
@[simp] theorem Work.returnToQueue_cranes (l : List Nat) : (w.returnToQueue l).cranes = w.cranes := rfl
@[simp] theorem Work.returnToQueue_runway (l : List Nat) : (w.returnToQueue l).runway = w.runway := rfl
@[simp] theorem Work.returnToQueue_bays (l : List Nat) : (w.returnToQueue l).bays = w.bays := rfl
@[simp] theorem Work.returnToQueue_coordFault (l : List Nat) : (w.returnToQueue l).coordFault = w.coordFault := rfl
@[simp] theorem Work.returnToQueue_clock (l : List Nat) : (w.returnToQueue l).clock = w.clock := rfl
@[simp] theorem Work.returnToQueue_link (l : List Nat) : (w.returnToQueue l).link = w.link := rfl
@[simp] theorem Work.returnToQueue_leds (l : List Nat) : (w.returnToQueue l).leds = w.leds := rfl
@[simp] theorem Work.returnToQueue_sent (l : List Nat) : (w.returnToQueue l).sent = w.sent := rfl
@[simp] theorem Work.returnToQueue_eventNo (l : List Nat) : (w.returnToQueue l).eventNo = w.eventNo := rfl
@[simp] theorem Work.returnToQueue_pending (l : List Nat) : (w.returnToQueue l).pending = w.pending := rfl
@[simp] theorem Work.returnToQueue_out (l : List Nat) : (w.returnToQueue l).out = w.out := rfl
@[simp] theorem Work.returnToQueue_orders (l : List Nat) : (w.returnToQueue l).orders = w.orders := rfl
@[simp] theorem Work.returnToQueue_retry (l : List Nat) : (w.returnToQueue l).retry = w.retry := rfl
@[simp] theorem Work.returnToQueue_pop (l : List Nat) : (w.returnToQueue l).pop = w.pop := rfl
@[simp] theorem Work.returnToQueue_grant (l : List Nat) : (w.returnToQueue l).grant = w.grant := rfl
@[simp] theorem Work.returnToQueue_test (l : List Nat) : (w.returnToQueue l).test = w.test := rfl

@[simp] theorem Work.leaveQueue_power (n : Nat) : (w.leaveQueue n).power = w.power := rfl
@[simp] theorem Work.leaveQueue_layout (n : Nat) : (w.leaveQueue n).layout = w.layout := rfl
@[simp] theorem Work.leaveQueue_yard (n : Nat) : (w.leaveQueue n).yard = w.yard := rfl
@[simp] theorem Work.leaveQueue_coils (n : Nat) : (w.leaveQueue n).coils = w.coils := rfl
@[simp] theorem Work.leaveQueue_weighing (n : Nat) : (w.leaveQueue n).weighing = w.weighing := rfl
@[simp] theorem Work.leaveQueue_cranes (n : Nat) : (w.leaveQueue n).cranes = w.cranes := rfl
@[simp] theorem Work.leaveQueue_runway (n : Nat) : (w.leaveQueue n).runway = w.runway := rfl
@[simp] theorem Work.leaveQueue_bays (n : Nat) : (w.leaveQueue n).bays = w.bays := rfl
@[simp] theorem Work.leaveQueue_coordFault (n : Nat) : (w.leaveQueue n).coordFault = w.coordFault := rfl
@[simp] theorem Work.leaveQueue_clock (n : Nat) : (w.leaveQueue n).clock = w.clock := rfl
@[simp] theorem Work.leaveQueue_link (n : Nat) : (w.leaveQueue n).link = w.link := rfl
@[simp] theorem Work.leaveQueue_leds (n : Nat) : (w.leaveQueue n).leds = w.leds := rfl
@[simp] theorem Work.leaveQueue_sent (n : Nat) : (w.leaveQueue n).sent = w.sent := rfl
@[simp] theorem Work.leaveQueue_eventNo (n : Nat) : (w.leaveQueue n).eventNo = w.eventNo := rfl
@[simp] theorem Work.leaveQueue_pending (n : Nat) : (w.leaveQueue n).pending = w.pending := rfl
@[simp] theorem Work.leaveQueue_out (n : Nat) : (w.leaveQueue n).out = w.out := rfl
@[simp] theorem Work.leaveQueue_orders (n : Nat) : (w.leaveQueue n).orders = w.orders := rfl
@[simp] theorem Work.leaveQueue_retry (n : Nat) : (w.leaveQueue n).retry = w.retry := rfl
@[simp] theorem Work.leaveQueue_pop (n : Nat) : (w.leaveQueue n).pop = w.pop := rfl
@[simp] theorem Work.leaveQueue_dispatch (n : Nat) : (w.leaveQueue n).dispatch = w.dispatch := rfl
@[simp] theorem Work.leaveQueue_grant (n : Nat) : (w.leaveQueue n).grant = w.grant := rfl
@[simp] theorem Work.leaveQueue_test (n : Nat) : (w.leaveQueue n).test = w.test := rfl

@[simp] theorem Work.notice_out (b : NoticeBody) : (w.notice b).out = w.out ++ [b] := rfl
@[simp] theorem Work.modCrane_cranes (c : CraneId) (f : CraneRec → CraneRec) :
    (w.modCrane c f).cranes = w.cranes.set c (f (w.cranes.get c)) := rfl
@[simp] theorem Work.modHook_bays' (c : CraneId) (f : HookScale → HookScale) :
    (w.modHook c f).weighing.bays = w.weighing.bays := rfl
@[simp] theorem Work.modHook_cranes' (c : CraneId) (f : HookScale → HookScale) :
    (w.modHook c f).weighing.cranes = w.weighing.cranes.set c (f (w.weighing.cranes.get c)) := rfl
@[simp] theorem Work.modScale_cranes' (b : BayId) (f : BayScale → BayScale) :
    (w.modScale b f).weighing.cranes = w.weighing.cranes := rfl
@[simp] theorem Work.modScale_bays' (b : BayId) (f : BayScale → BayScale) :
    (w.modScale b f).weighing.bays = w.weighing.bays.set b (f (w.weighing.bays.get b)) := rfl
@[simp] theorem Work.modBay_bays (b : BayId) (f : Bay → Bay) : (w.modBay b f).bays = w.bays.set b (f (w.bays.get b)) := rfl
@[simp] theorem Work.modVisit_bays (b : BayId) (f : Visit → Visit) :
    (w.modVisit b f).bays = w.bays.set b { w.bays.get b with visit := (w.bays.get b).visit.map f } := rfl
@[simp] theorem Work.setClaim_claims (c : CraneId) (x : Option Claim) : (w.setClaim c x).runway.claims = w.runway.claims.set c x := rfl
@[simp] theorem Work.setClaim_waits (c : CraneId) (x : Option Claim) : (w.setClaim c x).runway.waits = w.runway.waits := rfl
@[simp] theorem Work.setClaim_yields (c : CraneId) (x : Option Claim) : (w.setClaim c x).runway.yields = w.runway.yields := rfl
@[simp] theorem Work.setClaim_fences (c : CraneId) (x : Option Claim) : (w.setClaim c x).runway.fences = w.runway.fences := rfl
@[simp] theorem Work.setClaim_frozen (c : CraneId) (x : Option Claim) : (w.setClaim c x).runway.frozen = w.runway.frozen := rfl
@[simp] theorem Work.setWait_waits (c : CraneId) (x : Option Wait) : (w.setWait c x).runway.waits = w.runway.waits.set c x := rfl
@[simp] theorem Work.setWait_claims (c : CraneId) (x : Option Wait) : (w.setWait c x).runway.claims = w.runway.claims := rfl
@[simp] theorem Work.setWait_frozen (c : CraneId) (x : Option Wait) : (w.setWait c x).runway.frozen = w.runway.frozen := rfl
@[simp] theorem Work.setYield_yields (c : CraneId) (x : Option Yield) : (w.setYield c x).runway.yields = w.runway.yields.set c x := rfl
@[simp] theorem Work.setYield_claims (c : CraneId) (x : Option Yield) : (w.setYield c x).runway.claims = w.runway.claims := rfl
@[simp] theorem Work.setYield_waits (c : CraneId) (x : Option Yield) : (w.setYield c x).runway.waits = w.runway.waits := rfl
@[simp] theorem Work.modMove_table (n : Nat) (f : Move → Move) :
    (w.modMove n f).moves.table = w.moves.table.mapVals fun m => if m.number = n then f m else m := rfl
@[simp] theorem Work.modMove_queue (n : Nat) (f : Move → Move) : (w.modMove n f).moves.queue = w.moves.queue := rfl
@[simp] theorem Work.modMove_last (n : Nat) (f : Move → Move) : (w.modMove n f).moves.last = w.moves.last := rfl
@[simp] theorem Work.modCoil_coils (id : MillId) (f : Coil → Coil) :
    (w.modCoil id f).coils = w.coils.mapVals fun k => if k.id = id then f k else k := rfl
@[simp] theorem Work.putSlot_slots (a : SlotAddr) (x : SlotState) :
    (w.putSlot a x).yard.slots = w.yard.slots.put a.key ⟨a, x⟩ := rfl
@[simp] theorem Work.freeSlot_slots (a : SlotAddr) : (w.freeSlot a).yard.slots = w.yard.slots.erase a.key := rfl
@[simp] theorem Work.putSlot_protect (a : SlotAddr) (x : SlotState) : (w.putSlot a x).yard.protect = w.yard.protect := rfl
@[simp] theorem Work.freeSlot_protect (a : SlotAddr) : (w.freeSlot a).yard.protect = w.yard.protect := rfl

/-- A slot that is put reads as it was put. -/
@[simp] theorem Work.slot_putSlot (a : SlotAddr) (x : SlotState) : (w.putSlot a x).slot a = some x := by
  simp [State.slot]

/-- A slot that is freed is FREE. -/
@[simp] theorem Work.slot_freeSlot (a : SlotAddr) : (w.freeSlot a).slot a = none := by simp [State.slot]

end

/-! ### The outputs -/

section
variable (s : State)

@[simp] theorem State.refresh_power : s.refresh.power = s.power := rfl
@[simp] theorem State.refresh_layout : s.refresh.layout = s.layout := rfl
@[simp] theorem State.refresh_yard : s.refresh.yard = s.yard := rfl
@[simp] theorem State.refresh_coils : s.refresh.coils = s.coils := rfl
@[simp] theorem State.refresh_weighing : s.refresh.weighing = s.weighing := rfl
@[simp] theorem State.refresh_cranes : s.refresh.cranes = s.cranes := rfl
@[simp] theorem State.refresh_moves : s.refresh.moves = s.moves := rfl
@[simp] theorem State.refresh_bays : s.refresh.bays = s.bays := rfl
@[simp] theorem State.refresh_coordFault : s.refresh.coordFault = s.coordFault := rfl
@[simp] theorem State.refresh_clock : s.refresh.clock = s.clock := rfl
@[simp] theorem State.refresh_link : s.refresh.link = s.link := rfl
@[simp] theorem State.refresh_sent : s.refresh.sent = s.sent := rfl
@[simp] theorem State.refresh_eventNo : s.refresh.eventNo = s.eventNo := rfl
@[simp] theorem State.refresh_pending : s.refresh.pending = s.pending := rfl
@[simp] theorem State.refresh_leds : s.refresh.leds = s.ledCond := rfl
@[simp] theorem State.refresh_claims : s.refresh.runway.claims = s.runway.claims := rfl
@[simp] theorem State.refresh_waits : s.refresh.runway.waits = s.runway.waits := rfl
@[simp] theorem State.refresh_fences : s.refresh.runway.fences = s.runway.fences := rfl
@[simp] theorem State.refresh_frozen : s.refresh.runway.frozen = s.runway.frozen := rfl
@[simp] theorem State.refresh_fault : s.refresh.runway.fault = s.runway.fault := rfl
@[simp] theorem State.refresh_permit (c : CraneId) : s.refresh.runway.permit.get c = s.permitCond c := by cases c <;> rfl

/-! ### The start of an event -/

@[simp] theorem Work.start_power : (Work.start s).power = s.power := rfl
@[simp] theorem Work.start_layout : (Work.start s).layout = s.layout := rfl
@[simp] theorem Work.start_yard : (Work.start s).yard = s.yard := rfl
@[simp] theorem Work.start_coils : (Work.start s).coils = s.coils := rfl
@[simp] theorem Work.start_weighing : (Work.start s).weighing = s.weighing := rfl
@[simp] theorem Work.start_cranes : (Work.start s).cranes = s.cranes := rfl
@[simp] theorem Work.start_moves : (Work.start s).moves = s.moves := rfl
@[simp] theorem Work.start_runway : (Work.start s).runway = s.runway := rfl
@[simp] theorem Work.start_bays : (Work.start s).bays = s.bays := rfl
@[simp] theorem Work.start_coordFault : (Work.start s).coordFault = s.coordFault := rfl
@[simp] theorem Work.start_clock : (Work.start s).clock = s.clock := rfl
@[simp] theorem Work.start_link : (Work.start s).link = s.link := rfl
@[simp] theorem Work.start_leds : (Work.start s).leds = s.leds := rfl
@[simp] theorem Work.start_pending : (Work.start s).pending = s.pending := rfl
@[simp] theorem Work.start_sent : (Work.start s).sent = [] := rfl
@[simp] theorem Work.start_eventNo : (Work.start s).eventNo = s.eventNo + 1 := rfl
@[simp] theorem Work.start_out : (Work.start s).out = [] := rfl
@[simp] theorem Work.start_orders : (Work.start s).orders = [] := rfl
@[simp] theorem Work.start_retry : (Work.start s).retry = false := rfl
@[simp] theorem Work.start_pop : (Work.start s).pop = false := rfl
@[simp] theorem Work.start_dispatch : (Work.start s).dispatch = false := rfl
@[simp] theorem Work.start_grant : (Work.start s).grant = .all false := rfl
@[simp] theorem Work.start_test : (Work.start s).test = .all false := rfl

end

end Sys2Proof.Machine
end

