-- ==== Sys2Proof/Laws/Frame.lean ====
section
/-! SUPPORT. What the operations inside an event leave alone: `Keeps s t`. Every operation of the Machine folder that only carries out
effects of chapters 3 to 9 keeps the supply, the committed image, the Yard Clock, the command queue, the identities of the coils, the bay
lines and everything the Link Controller holds but the mode; the Move Table gains no entry; and the mode changes only to STOPPED, together
with the coordinator's fault part, the working image is at most discarded, and the fences keep their order. -/

namespace Sys2Proof.Machine

/-! ### The relation -/

/-- The identity fields of a coil record and its heat (R18). -/
def Coil.ident (k : Coil) : MillId × Nat × Nat × Nat × Thermal := (k.id, k.declared, k.od, k.width, k.thermal)

/-- The levels of a bay's two lines. -/
def Bay.lines (b : Bay) : Bool × Bool := (b.inPosition, b.safe)

/-- What an effect inside an event does not touch. -/
structure Kept where
  power : Power
  nv : NvStore
  committed : Image
  edition : Nat
  valid : Bool
  writing : Option Image
  clock : Nat
  eventNo : Nat
  pending : List Instr
  coils : List (Nat × (MillId × Nat × Nat × Nat × Thermal))
  protect : List Nat
  lines1 : Bool × Bool
  lines2 : Bool × Bool
  permit : PerCrane Bool
  leds : Leds
  sent : List SentOrder
  rx : Receiver
  notices : List Notice
  noticeCount : Nat
  lost : Bool
  fetch : Option (Byte × List Notice)
  cursor : TableName × Nat
  replies : List Reply

/-- The part of a state that an effect inside an event does not touch. -/
def State.kept (s : State) : Kept :=
  { power := s.power, nv := s.layout.nv, committed := s.layout.committed, edition := s.layout.edition, valid := s.layout.valid
    writing := s.layout.writing, clock := s.clock, eventNo := s.eventNo, pending := s.pending
    coils := s.coils.map fun e => (e.1, e.2.ident), protect := s.yard.protect
    lines1 := s.bays.b1.lines, lines2 := s.bays.b2.lines, permit := s.runway.permit, leds := s.leds, sent := s.sent
    rx := s.link.rx, notices := s.link.notices, noticeCount := s.link.noticeCount, lost := s.link.lost, fetch := s.link.fetch
    cursor := s.link.cursor, replies := s.link.replies }

/-- `t` differs from `s` only as the effects inside an event may make it differ. -/
structure Keeps (s t : State) : Prop where
  kept : t.kept = s.kept
  moves : (t.moves.table.map Prod.fst).Sublist (s.moves.table.map Prod.fst)
  mode : (t.link.mode = s.link.mode ∧ t.coordFault = s.coordFault) ∨ (t.link.mode = .stopped ∧ t.coordFault.isSome = true)
  working : t.layout.working = s.layout.working ∨ t.layout.working = none
  fences : s.fencesOrdered → t.fencesOrdered

@[simp] theorem Keeps.refl (s : State) : Keeps s s := ⟨rfl, List.Sublist.refl _, .inl ⟨rfl, rfl⟩, .inl rfl, id⟩

theorem Keeps.trans {s t u : State} (h : Keeps s t) (k : Keeps t u) : Keeps s u where
  kept := k.kept.trans h.kept
  moves := k.moves.trans h.moves
  mode := by
    rcases k.mode with ⟨a, b⟩ | hk
    · rcases h.mode with ⟨c, d⟩ | hh
      · exact .inl ⟨a.trans c, b.trans d⟩
      · exact .inr ⟨a.trans hh.1, b ▸ hh.2⟩
    · exact .inr hk
  working := by
    rcases k.working with e | e
    · rw [e]; exact h.working
    · exact .inr e
  fences := k.fences ∘ h.fences

/-- A fold of steps that keep keeps. -/
theorem Keeps.foldl {α : Type} {s : State} (f : Work → α → Work) (hf : ∀ (w : Work) (x : α), Keeps w.toState (f w x).toState) :
    ∀ (l : List α) (w : Work), Keeps s w.toState → Keeps s (l.foldl f w).toState
  | [], _, h => h
  | x :: l, w, h => Keeps.foldl f hf l (f w x) (h.trans (hf w x))

/-! ### Records -/

section
variable {s : State} {w : Work}

@[simp] theorem Keeps.notice (h : Keeps s w.toState) (b : NoticeBody) : Keeps s (w.notice b).toState := h

@[simp] theorem Keeps.modCrane (h : Keeps s w.toState) (c : CraneId) (f : CraneRec → CraneRec) :
    Keeps s (w.modCrane c f).toState := ⟨h.kept, h.moves, h.mode, h.working, h.fences⟩

@[simp] theorem Keeps.modHook (h : Keeps s w.toState) (c : CraneId) (f : HookScale → HookScale) :
    Keeps s (w.modHook c f).toState := ⟨h.kept, h.moves, h.mode, h.working, h.fences⟩

@[simp] theorem Keeps.modScale (h : Keeps s w.toState) (b : BayId) (f : BayScale → BayScale) :
    Keeps s (w.modScale b f).toState := ⟨h.kept, h.moves, h.mode, h.working, h.fences⟩

/-- A change of a bay's record that leaves its lines alone keeps. -/
@[simp] theorem Keeps.modBay (h : Keeps s w.toState) (b : BayId) (f : Bay → Bay) (hf : ∀ x, (f x).lines = x.lines) :
    Keeps s (w.modBay b f).toState := by
  refine ⟨Eq.trans ?_ h.kept, h.moves, h.mode, h.working, h.fences⟩
  cases b <;> simp [Work.modBay, State.kept, PerBay.set, PerBay.get, hf]

@[simp] theorem Keeps.modVisit (h : Keeps s w.toState) (b : BayId) (f : Visit → Visit) : Keeps s (w.modVisit b f).toState :=
  h.modBay b _ fun _ => rfl

@[simp] theorem Keeps.setClaim (h : Keeps s w.toState) (c : CraneId) (x : Option Claim) : Keeps s (w.setClaim c x).toState :=
  ⟨h.kept, h.moves, h.mode, h.working, h.fences⟩

@[simp] theorem Keeps.setWait (h : Keeps s w.toState) (c : CraneId) (x : Option Wait) : Keeps s (w.setWait c x).toState :=
  ⟨h.kept, h.moves, h.mode, h.working, h.fences⟩

@[simp] theorem Keeps.setYield (h : Keeps s w.toState) (c : CraneId) (x : Option Yield) : Keeps s (w.setYield c x).toState :=
  ⟨h.kept, h.moves, h.mode, h.working, h.fences⟩

theorem Keeps.mapMoves (h : Keeps s w.toState) (f : Move → Move) (q : List Nat) :
    Keeps s { w.toState with moves := { w.moves with table := w.moves.table.mapVals f, queue := q } } :=
  ⟨h.kept, by simpa [Table.mapVals, Function.comp_def] using h.moves, h.mode, h.working, h.fences⟩

@[simp] theorem Keeps.modMove (h : Keeps s w.toState) (n : Nat) (f : Move → Move) : Keeps s (w.modMove n f).toState :=
  h.mapMoves _ _

/-- A change of a coil's record that leaves its identity alone keeps. -/
@[simp] theorem Keeps.modCoil (h : Keeps s w.toState) (id : MillId) (f : Coil → Coil) (hf : ∀ k, (f k).ident = k.ident) :
    Keeps s (w.modCoil id f).toState := by
  refine ⟨Eq.trans ?_ h.kept, h.moves, h.mode, h.working, h.fences⟩
  simp only [Work.modCoil, State.kept, Table.mapVals, List.map_map, Kept.mk.injEq, true_and, and_true]
  refine List.map_congr_left fun e _ => ?_
  simp only [Function.comp]
  split <;> simp [hf]

/-! ### Slots, saddles, queue -/

@[simp] theorem Keeps.putSlot (h : Keeps s w.toState) (a : SlotAddr) (x : SlotState) : Keeps s (w.putSlot a x).toState :=
  ⟨h.kept, h.moves, h.mode, h.working, h.fences⟩

@[simp] theorem Keeps.freeSlot (h : Keeps s w.toState) (a : SlotAddr) : Keeps s (w.freeSlot a).toState := ⟨h.kept, h.moves, h.mode, h.working, h.fences⟩

theorem Keeps.reserveIn (h : Keeps s w.toState) {a : SlotAddr} {m : Nat} {w' : Work} (e : w.reserveIn a m = some w') :
    Keeps s w'.toState := by
  unfold Work.reserveIn at e
  split at e <;> simp at e
  subst e; simp [h]

theorem Keeps.reserveOut (h : Keeps s w.toState) {a : SlotAddr} {m : Nat} {w' : Work} (e : w.reserveOut a m = some w') :
    Keeps s w'.toState := by
  unfold Work.reserveOut at e
  split at e
  · split at e <;> simp at e
    subst e; simp [h]
  · simp at e

theorem Keeps.enterSlot (h : Keeps s w.toState) {a : SlotAddr} {id : MillId} {w' : Work} (e : w.enterSlot a id = some w') :
    Keeps s w'.toState := by
  unfold Work.enterSlot at e
  split at e <;> simp at e
  subst e; simp [h]

theorem Keeps.vacateSlot (h : Keeps s w.toState) {a : SlotAddr} {w' : Work} (e : w.vacateSlot a = some w') :
    Keeps s w'.toState := by
  unfold Work.vacateSlot at e
  split at e <;> simp at e
  subst e; simp [h]

@[simp] theorem Keeps.releaseIn (h : Keeps s w.toState) (a : SlotAddr) (m : Nat) : Keeps s (w.releaseIn a m).toState := by
  unfold Work.releaseIn; split <;> simp (maxDischargeDepth := 40) [h]

@[simp] theorem Keeps.releaseOut (h : Keeps s w.toState) (a : SlotAddr) (m : Nat) : Keeps s (w.releaseOut a m).toState := by
  unfold Work.releaseOut; repeat' split
  all_goals simp (maxDischargeDepth := 40) [h]

@[simp] theorem Keeps.pickComplete (h : Keeps s w.toState) (a : SlotAddr) (m : Nat) : Keeps s (w.pickComplete a m).toState := by
  unfold Work.pickComplete; repeat' split
  all_goals simp (maxDischargeDepth := 40) [h]

@[simp] theorem Keeps.setComplete (h : Keeps s w.toState) (a : SlotAddr) (m : Nat) (id : MillId) :
    Keeps s (w.setComplete a m id).toState := by
  unfold Work.setComplete; split <;> simp (maxDischargeDepth := 40) [h]

@[simp] theorem Keeps.setSaddle (h : Keeps s w.toState) (x : Saddle) (id : Option MillId) : Keeps s (w.setSaddle x id).toState := by
  cases x <;> exact ⟨h.kept, h.moves, h.mode, h.working, h.fences⟩

@[simp] theorem Keeps.joinQueue (h : Keeps s w.toState) (n : Nat) : Keeps s (w.joinQueue n).toState := ⟨h.kept, h.moves, h.mode, h.working, h.fences⟩

@[simp] theorem Keeps.returnToQueue (h : Keeps s w.toState) (l : List Nat) : Keeps s (w.returnToQueue l).toState :=
  ⟨h.kept, h.moves, h.mode, h.working, h.fences⟩

@[simp] theorem Keeps.leaveQueue (h : Keeps s w.toState) (n : Nat) : Keeps s (w.leaveQueue n).toState := ⟨h.kept, h.moves, h.mode, h.working, h.fences⟩

@[simp] theorem Keeps.moveNotice (h : Keeps s w.toState) (n : Nat) : Keeps s (w.moveNotice n).toState := by
  unfold Work.moveNotice; split <;> simp (maxDischargeDepth := 40) [h]

/-! ### Orders -/

@[simp] theorem Keeps.sendOrder (h : Keeps s w.toState) (c : CraneId) (o : Order) : Keeps s (w.sendOrder c o).toState := by
  simp [Work.sendOrder, h]

@[simp] theorem Keeps.resend (h : Keeps s w.toState) (c : CraneId) : Keeps s (w.resend c).toState := by
  unfold Work.resend; split <;> exact h

@[simp] theorem Keeps.sendStop (h : Keeps s w.toState) (c : CraneId) : Keeps s (w.sendStop c).toState := by
  simp only [Work.sendStop]; split <;> simp (maxDischargeDepth := 40) [h]

@[simp] theorem Keeps.stopIfAlive (h : Keeps s w.toState) (c : CraneId) : Keeps s (w.stopIfAlive c).toState := by
  unfold Work.stopIfAlive; split <;> simp (maxDischargeDepth := 40) [h]

@[simp] theorem Keeps.stopAll (h : Keeps s w.toState) : Keeps s w.stopAll.toState :=
  Keeps.foldl _ (fun w c => by simp) _ _ h

@[simp] theorem Keeps.sendAbort (h : Keeps s w.toState) (c : CraneId) (drop : Bool) : Keeps s (w.sendAbort c drop).toState := by
  simp [Work.sendAbort, h]

@[simp] theorem Keeps.sendPhaseOrder (h : Keeps s w.toState) (c : CraneId) (m : Move) : Keeps s (w.sendPhaseOrder c m).toState := by
  unfold Work.sendPhaseOrder; repeat' split
  all_goals simp (maxDischargeDepth := 40) [h]

@[simp] theorem Keeps.sendDue (h : Keeps s w.toState) (c : CraneId) : Keeps s (w.sendDue c).toState := by
  unfold Work.sendDue; repeat' split
  all_goals simp (maxDischargeDepth := 40) [h]

@[simp] theorem Keeps.setCurrent (h : Keeps s w.toState) (c : CraneId) (n : Option Nat) : Keeps s (w.setCurrent c n).toState := by
  simp [Work.setCurrent, h]

@[simp] theorem Keeps.clearMarksTo (h : Keeps s w.toState) (c : CraneId) : Keeps s (w.clearMarksTo c).toState := h.mapMoves _ _

@[simp] theorem Keeps.leaveBayOrders (h : Keeps s w.toState) (n : Nat) : Keeps s (w.leaveBayOrders n).toState :=
  ⟨h.kept, h.moves, h.mode, h.working, h.fences⟩

@[simp] theorem Keeps.releaseLock (h : Keeps s w.toState) (n : Nat) : Keeps s (w.releaseLock n).toState := by
  refine ⟨Eq.trans ?_ h.kept, h.moves, h.mode, h.working, h.fences⟩
  have hl (b : Bay) : (if b.lock = some n then { b with lock := none } else b).lines = b.lines := by split <;> rfl
  simp [Work.releaseLock, State.kept, PerBay.map, hl]

@[simp] theorem Keeps.withdraw (h : Keeps s w.toState) (c : CraneId) (n : Nat) : Keeps s (w.withdraw c n).toState := by
  simp only [Work.withdraw]
  apply Keeps.modMove
  repeat' split
  all_goals simp (maxDischargeDepth := 40) [h]

@[simp] theorem Keeps.discardHook (h : Keeps s w.toState) (c : CraneId) : Keeps s (w.discardHook c).toState := by
  simp [Work.discardHook, h]

@[simp] theorem Keeps.leaveActive (h : Keeps s w.toState) (n : Nat) (how : Halt) : Keeps s (w.leaveActive n how).toState := by
  simp only [Work.leaveActive]
  cases how <;> repeat' split
  all_goals simp (maxDischargeDepth := 40) [h]

end

end Sys2Proof.Machine
end

