-- ==== Sys2Proof/Laws/FrameEvent.lean ====
section
/-! SUPPORT. What the fault actions, the claims, the bays, the phases, the ends of moves and the Dispatcher leave alone. -/

namespace Sys2Proof.Machine

section
variable {s : State} {w : Work}

/-! ### Faults (R176 to R182) -/

@[simp] theorem Keeps.noteIdle (h : Keeps s w.toState) (c : CraneId) :
    Keeps s (w.noteIdle c).toState := by
  exact ⟨h.kept, h.moves, h.mode, h.working, h.fences⟩

@[simp] theorem Keeps.endYield (h : Keeps s w.toState) (c : CraneId) :
    Keeps s (w.endYield c).toState := by
  simp only [Work.endYield]
  repeat' split
  all_goals simp (maxDischargeDepth := 40) [h]

@[simp] theorem Keeps.openMove (h : Keeps s w.toState) (n code detail : Nat) (order : Option OrderKind) :
    Keeps s (w.openMove n code detail order).toState := by
  simp only [Work.openMove]
  repeat' split
  all_goals simp (maxDischargeDepth := 40) [h]

@[simp] theorem Keeps.holdForCrane (h : Keeps s w.toState) (n : Nat) :
    Keeps s (w.holdForCrane n).toState := by
  simp only [Work.holdForCrane]
  repeat' split
  all_goals simp (maxDischargeDepth := 40) [h]

@[simp] theorem Keeps.openCrane (h : Keeps s w.toState) (c : CraneId) (code detail : Nat) (origin : Option Origin) (order : Option OrderKind) :
    Keeps s (w.openCrane c code detail origin order).toState := by
  simp only [Work.openCrane]
  repeat' split
  all_goals simp (maxDischargeDepth := 40) [h]

@[simp] theorem Keeps.holdForRunway (h : Keeps s w.toState) (n : Nat) :
    Keeps s (w.holdForRunway n).toState := by
  simp only [Work.holdForRunway]
  repeat' split
  all_goals simp (maxDischargeDepth := 40) [h]

@[simp] theorem Keeps.openRunway (h : Keeps s w.toState) (code detail : Nat) (origin : Option Origin) :
    Keeps s (w.openRunway code detail origin).toState := by
  simp only [Work.openRunway]
  refine Keeps.foldl _ (fun w n => by simp) _ _ (Keeps.foldl _ (fun w c => by simp (maxDischargeDepth := 40)) _ _ ?_)
  exact ⟨h.kept, h.moves, h.mode, h.working, h.fences⟩

@[simp] theorem Keeps.discardSessions (h : Keeps s w.toState) :
    Keeps s (w.discardSessions).toState := by
  exact ⟨h.kept, h.moves, h.mode, h.working, h.fences⟩

@[simp] theorem Keeps.dropWaits (h : Keeps s w.toState) :
    Keeps s (w.dropWaits).toState := by
  exact ⟨h.kept, by simpa [Work.dropWaits, Table.mapVals, Function.comp_def] using h.moves, h.mode, h.working, h.fences⟩

@[simp] theorem Keeps.openCoord (h : Keeps s w.toState) (code detail : Nat) (origin : Option Origin) :
    Keeps s (w.openCoord code detail origin).toState := by
  simp only [Work.openCoord]
  refine Keeps.foldl _ (fun w c => by simp) _ _ ?_
  have h1 (p : FaultPart) (b : NoticeBody) :
      Keeps s (Work.changeMode { w.notice b with coordFault := some p } .stopped .fault).toState := by
    refine ⟨Eq.trans ?_ h.kept, h.moves, .inr ⟨rfl, rfl⟩, ?_, h.fences⟩
    swap
    · simp only [Work.changeMode]
      split
      · exact .inr rfl
      · exact h.working
    simp only [State.kept]
    congr 1
    · exact (apply_ite Layout.nv _ _ _).trans (ite_self _)
    · exact (apply_ite Layout.committed _ _ _).trans (ite_self _)
    · exact (apply_ite Layout.edition _ _ _).trans (ite_self _)
    · exact (apply_ite Layout.valid _ _ _).trans (ite_self _)
    · exact (apply_ite Layout.writing _ _ _).trans (ite_self _)
  exact Keeps.dropWaits (Keeps.discardSessions (Keeps.stopAll (h1 _ _)))

@[simp] theorem Keeps.raiseCoord (h : Keeps s w.toState) (code detail : Nat) (origin : Origin) (escalated : Bool) :
    Keeps s (w.raiseCoord code detail origin escalated).toState := by
  simp only [Work.raiseCoord]
  repeat' split
  all_goals simp (maxDischargeDepth := 40) [h]

@[simp] theorem Keeps.raiseRunway (h : Keeps s w.toState) (code detail : Nat) (origin : Origin) (escalated : Bool) :
    Keeps s (w.raiseRunway code detail origin escalated).toState := by
  simp only [Work.raiseRunway]
  repeat' split
  all_goals simp (maxDischargeDepth := 40) [h]

@[simp] theorem Keeps.raiseCrane (h : Keeps s w.toState) (c : CraneId) (code detail : Nat) (origin : Origin) (escalated : Bool) (order : Option OrderKind) :
    Keeps s (w.raiseCrane c code detail origin escalated order).toState := by
  simp only [Work.raiseCrane]
  repeat' split
  all_goals simp (maxDischargeDepth := 40) [h]

@[simp] theorem Keeps.raiseMove (h : Keeps s w.toState) (n code detail : Nat) (origin : Origin) (order : Option OrderKind) :
    Keeps s (w.raiseMove n code detail origin order).toState := by
  simp only [Work.raiseMove]
  repeat' split
  all_goals simp (maxDischargeDepth := 40) [h]

@[simp] theorem Keeps.raise (h : Keeps s w.toState) (sj : Subject) (code detail : Nat) (order : Option OrderKind) :
    Keeps s (w.raise sj code detail order).toState := by
  unfold Work.raise
  cases sj <;> simp (maxDischargeDepth := 40) [h]

/-! ### Claims (R109 to R126) -/

/-- The test of the fences touches nothing but the fences (R122). -/
theorem testFences_frame (w : Work) :
    (Work.testFences w).toState.kept = w.toState.kept ∧ (Work.testFences w).moves = w.moves
      ∧ (Work.testFences w).link.mode = w.link.mode ∧ (Work.testFences w).coordFault = w.coordFault
      ∧ (Work.testFences w).layout.working = w.layout.working := by
  unfold Work.testFences
  generalize w.runway.fences = l
  induction l generalizing w with
  | nil => exact ⟨rfl, rfl, rfl, rfl, rfl⟩
  | cons e l ih =>
    rw [List.foldl_cons]
    obtain ⟨h1, h2, h3, h4, h5⟩ := ih (if decide (e.2.state = .pending) && !w.fenceTouched e.2 then
      { w with runway := { w.runway with fences := w.runway.fences.put e.1 { e.2 with state := .active } } }.notice
        (.fenceState e.1 e.2.lo e.2.hi .active) else w)
    rw [h1, h2, h3, h4, h5]
    split <;> exact ⟨rfl, rfl, rfl, rfl, rfl⟩

/-- The test of the fences keeps them in order. -/
theorem testFences_ordered {w : Work} (h : w.fencesOrdered) : (Work.testFences w).fencesOrdered := by
  unfold Work.testFences
  have key : ∀ (l : Table Fence) (v : Work), (∀ e ∈ l, 1 ≤ e.1 ∧ e.1 ≤ 4) → v.fencesOrdered →
      (l.foldl (fun w e => if decide (e.2.state = .pending) && !w.fenceTouched e.2 then
        { w with runway := { w.runway with fences := w.runway.fences.put e.1 { e.2 with state := .active } } }.notice
          (.fenceState e.1 e.2.lo e.2.hi .active) else w) v).fencesOrdered := by
    intro l
    induction l with
    | nil => exact fun v _ hv => hv
    | cons e l ih =>
      intro v hl hv
      rw [List.foldl_cons]
      refine ih _ (fun x hx => hl x (by simp [hx])) ?_
      split
      · refine ⟨Table.wf_put hv.1 _ _, fun x hx => ?_⟩
        rcases Table.mem_put hx with rfl | hx
        · exact hl e (by simp)
        · exact hv.2 x hx
      · exact hv
  exact key _ _ h.2 h

@[simp] theorem Keeps.testFences (h : Keeps s w.toState) :
    Keeps s (w.testFences).toState := by
  refine h.trans ⟨?_, ?_, ?_, ?_, fun hf => ?_⟩
  · exact (testFences_frame w).1
  · rw [(testFences_frame w).2.1]
  · rw [(testFences_frame w).2.2.1, (testFences_frame w).2.2.2.1]; exact .inl ⟨rfl, rfl⟩
  · rw [(testFences_frame w).2.2.2.2]; exact .inl rfl
  · exact testFences_ordered hf

/-- What a shrink can do: the claim of the crane becomes the part of its stationary claim within it, and retries and a Dispatcher run are owed
(R115, R126). -/
theorem narrowClaim_cases {w v : Work} {c : CraneId} {x : Cm} (h : w.narrowClaim c x = some v) :
    w.runway.frozen = false ∧ w.link.mode ≠ .stopped ∧ ∃ k, w.runway.claims.get c = some k ∧
      v = { w.setClaim c (some ⟨max k.lo (w.stationary c x).1, min k.hi (w.stationary c x).2, .stationary⟩) with
        retry := true, dispatch := true } := by
  unfold Work.narrowClaim at h
  split at h
  · cases h
  · next hf =>
    simp only [Bool.or_eq_true, decide_eq_true_eq, not_or] at hf
    split at h
    · cases h
    · next k hk =>
      dsimp only at h
      split at h
      · exact ⟨by simpa using hf.1, hf.2, k, hk, (Option.some.inj h).symm⟩
      · cases h

theorem Keeps.narrowClaim {v : Work} (h : Keeps s w.toState) {c : CraneId} {x : Cm} (hv : w.narrowClaim c x = some v) :
    Keeps s v.toState := by
  obtain ⟨_, _, k, _, rfl⟩ := narrowClaim_cases hv
  exact h.setClaim c _

@[simp] theorem Keeps.shrinkClaim (h : Keeps s w.toState) (c : CraneId) (x : Cm) :
    Keeps s (w.shrinkClaim c x).toState := by
  simp only [Work.shrinkClaim]
  split
  · next v hv => exact (h.narrowClaim hv).testFences
  · exact h

@[simp] theorem Keeps.gapClaim (h : Keeps s w.toState) (c : CraneId) :
    Keeps s (w.gapClaim c).toState := by
  simp only [Work.gapClaim]
  repeat' split
  all_goals simp (maxDischargeDepth := 40) [h]

@[simp] theorem Keeps.grantClaim (h : Keeps s w.toState) (c : CraneId) (n : Nat) (sp : Span) :
    Keeps s (w.grantClaim c n sp).toState := by
  simp only [Work.grantClaim]
  repeat' split
  all_goals simp (maxDischargeDepth := 40) [h]

@[simp] theorem Keeps.makeYield (h : Keeps s w.toState) (i j : CraneId) (x : Cm) :
    Keeps s (w.makeYield i j x).toState := by
  simp only [Work.makeYield]
  all_goals simp (maxDischargeDepth := 40) [h]

theorem Keeps.tryYield (h : Keeps s w.toState) {i : CraneId} {sp : Span} {b : Nat} {w' : Work} (e : w.tryYield i sp b = some w') :
    Keeps s w'.toState := by
  unfold Work.tryYield at e
  split at e
  · simp at e
  · simp only at e
    split at e <;> simp at e
    subst e; simp [h]

@[simp] theorem Keeps.giveWay (h : Keeps s w.toState) (j i : CraneId) :
    Keeps s (w.giveWay j i).toState := by
  simp only [Work.giveWay]
  repeat' split
  all_goals simp (maxDischargeDepth := 40) [h]

@[simp] theorem Keeps.mutualStep (h : Keeps s w.toState) (i : CraneId) :
    Keeps s (w.mutualStep i).toState := by
  simp only [Work.mutualStep]
  repeat' split
  all_goals simp (maxDischargeDepth := 40) [h]

@[simp] theorem Keeps.refuseClaim (h : Keeps s w.toState) (c : CraneId) (n : Nat) (sp : Span) (blocker : Nat) (old : Option Wait) :
    Keeps s (w.refuseClaim c n sp blocker old).toState := by
  simp only [Work.refuseClaim]
  split
  · next e => exact Keeps.tryYield (by simp [h]) e
  · simp (maxDischargeDepth := 40) [h]

@[simp] theorem Keeps.tryClaim (h : Keeps s w.toState) (c : CraneId) (n : Nat) (sp : Span) (old : Option Wait) :
    Keeps s (w.tryClaim c n sp old).toState := by
  simp only [Work.tryClaim]
  repeat' split
  all_goals simp (maxDischargeDepth := 40) [h]

@[simp] theorem Keeps.requestClaim (h : Keeps s w.toState) (c : CraneId) (n : Nat) :
    Keeps s (w.requestClaim c n).toState := by
  simp only [Work.requestClaim]
  repeat' split
  all_goals simp (maxDischargeDepth := 40) [h]

@[simp] theorem Keeps.retryOne (h : Keeps s w.toState) (c : CraneId) :
    Keeps s (w.retryOne c).toState := by
  simp only [Work.retryOne]
  repeat' split
  all_goals simp (maxDischargeDepth := 40) [h]

@[simp] theorem Keeps.retryAll (h : Keeps s w.toState) :
    Keeps s (w.retryAll).toState := by
  unfold Work.retryAll
  split
  · exact h
  · exact Keeps.foldl _ (fun w c => by simp) _ _ h

/-! ### Bays (R148 to R175) -/

@[simp] theorem Keeps.scaleNotice (h : Keeps s w.toState) (b : BayId) (kind : Option SessionKind) (cause : ScaleCause) (value : Option Kg) :
    Keeps s (w.scaleNotice b kind cause value).toState := by
  simp only [Work.scaleNotice]
  all_goals simp (maxDischargeDepth := 40) [h]

@[simp] theorem Keeps.startBay (h : Keeps s w.toState) (b : BayId) (kind : SessionKind) (entry : Option Nat) :
    Keeps s (w.startBay b kind entry).toState := by
  simp only [Work.startBay]
  repeat' split
  all_goals simp (maxDischargeDepth := 40) [h]

@[simp] theorem Keeps.discardBay (h : Keeps s w.toState) (b : BayId) :
    Keeps s (w.discardBay b).toState := by
  simp only [Work.discardBay]
  all_goals simp (maxDischargeDepth := 40) [h]

@[simp] theorem Keeps.abandonZero (h : Keeps s w.toState) (b : BayId) :
    Keeps s (w.abandonZero b).toState := by
  simp only [Work.abandonZero]
  repeat' split
  all_goals simp (maxDischargeDepth := 40) [h]

@[simp] theorem Keeps.setVisitState (h : Keeps s w.toState) (b : BayId) (st : VisitState) (cause : TruckCause) (check : Option Verification) :
    Keeps s (w.setVisitState b st cause check).toState := by
  simp only [Work.setVisitState]
  repeat' split
  all_goals simp (maxDischargeDepth := 40) [h]

@[simp] theorem Keeps.removeVisit (h : Keeps s w.toState) (b : BayId) :
    Keeps s (w.removeVisit b).toState := by
  unfold Work.removeVisit
  split
  · exact h
  · exact Keeps.notice (Keeps.modBay h b (fun x => { x with visit := none }) (fun _ => rfl)) _

@[simp] theorem Keeps.depart (h : Keeps s w.toState) (b : BayId) (cause : TruckCause) :
    Keeps s (w.depart b cause).toState := by
  simp only [Work.depart]
  repeat' split
  all_goals simp (maxDischargeDepth := 40) [h]

@[simp] theorem Keeps.entryNotice (h : Keeps s w.toState) (b : BayId) (i : Nat) (cause : EntryCause) :
    Keeps s (w.entryNotice b i cause).toState := by
  simp only [Work.entryNotice]
  repeat' split
  all_goals simp (maxDischargeDepth := 40) [h]

@[simp] theorem Keeps.modEntry (h : Keeps s w.toState) (b : BayId) (i : Nat) (f : Entry → Entry) :
    Keeps s (w.modEntry b i f).toState := by
  simp only [Work.modEntry]
  all_goals simp (maxDischargeDepth := 40) [h]

@[simp] theorem Keeps.setCradle (h : Keeps s w.toState) (b : BayId) (k : Nat) (st : CradleState) :
    Keeps s (w.setCradle b k st).toState := by
  simp only [Work.setCradle]
  all_goals simp (maxDischargeDepth := 40) [h]

@[simp] theorem Keeps.oweTest (h : Keeps s w.toState) (b : BayId) :
    Keeps s (w.oweTest b).toState := by
  simp only [Work.oweTest]
  all_goals simp (maxDischargeDepth := 40) [h]

@[simp] theorem Keeps.oweGrant (h : Keeps s w.toState) (b : BayId) :
    Keeps s (w.oweGrant b).toState := by
  simp only [Work.oweGrant]
  all_goals simp (maxDischargeDepth := 40) [h]

/-- A coil's visit field is none of its identity. -/
@[simp] theorem Keeps.setVisit (h : Keeps s w.toState) (id : MillId) (b : Option BayId) :
    Keeps s (w.modCoil id fun k => { k with visit := b }).toState := h.modCoil id _ fun _ => rfl

@[simp] theorem Keeps.giveUpCradle (h : Keeps s w.toState) (n : Nat) (overweight : Bool) :
    Keeps s (w.giveUpCradle n overweight).toState := by
  simp only [Work.giveUpCradle]
  repeat' split
  all_goals simp (maxDischargeDepth := 40) [h]

@[simp] theorem Keeps.startVerify (h : Keeps s w.toState) (b : BayId) :
    Keeps s (w.startVerify b).toState := by
  simp only [Work.startVerify]
  repeat' split
  all_goals simp (maxDischargeDepth := 40) [h]

@[simp] theorem Keeps.bayTest (h : Keeps s w.toState) (b : BayId) :
    Keeps s (w.bayTest b).toState := by
  simp only [Work.bayTest]
  repeat' split
  all_goals simp (maxDischargeDepth := 40) [h]

@[simp] theorem Keeps.bayTests (h : Keeps s w.toState) :
    Keeps s (w.bayTests).toState := by
  refine Keeps.foldl _ (fun w b => ?_) _ _ h
  split <;> simp

@[simp] theorem Keeps.joinBay (h : Keeps s w.toState) (n : Nat) :
    Keeps s (w.joinBay n).toState := by
  unfold Work.joinBay
  split
  · exact h
  · apply Keeps.oweGrant; apply Keeps.modBay h; intro x; rfl

@[simp] theorem Keeps.tryGrant (h : Keeps s w.toState) (b : BayId) :
    Keeps s (w.tryGrant b).toState := by
  unfold Work.tryGrant
  repeat' split
  · exact h
  · exact h
  · simp only
    have h1 (n : Nat) (rest : List Nat) (f : Move → Move) :
        Keeps s ((w.modBay b fun x => { x with lock := some n, waiting := rest }).modMove n f).toState :=
      Keeps.modMove (Keeps.modBay h b (fun x => { x with lock := some n, waiting := rest }) fun _ => rfl) n f
    split <;> simp [h1]
  · exact h

@[simp] theorem Keeps.grants (h : Keeps s w.toState) :
    Keeps s (w.grants).toState := by
  refine Keeps.foldl _ (fun w b => ?_) _ _ h
  split <;> simp

/-! ### Phases and the settling of an event (R99, R113, R138) -/

@[simp] theorem Keeps.startHook (h : Keeps s w.toState) (c : CraneId) (n : Nat) :
    Keeps s (w.startHook c n).toState := by
  simp only [Work.startHook]
  repeat' split
  all_goals simp (maxDischargeDepth := 40) [h]

theorem Keeps.reallocate (h : Keeps s w.toState) {m : Move} {k : Coil} {old : Option Dest} {a : SlotAddr} {w' : Work}
    (e : w.reallocate m k old a = some w') : Keeps s w'.toState := by
  unfold Work.reallocate at e
  cases hr : w.reserveIn a m.number with
  | none => simp [hr] at e
  | some v =>
    simp only [hr, Option.map_some, Option.some.injEq] at e
    subst e
    simp [h.reserveIn hr]

theorem Keeps.resolveSlot (h : Keeps s w.toState) {c : CraneId} {n : Nat} {old : Option Dest} {w' : Work}
    (e : w.resolveSlot c n old = some w') : Keeps s w'.toState := by
  unfold Work.resolveSlot at e
  repeat' split at e
  all_goals first | simp at e | exact h.reallocate e

@[simp] theorem Keeps.sendOf (h : Keeps s w.toState) (c : CraneId) (n : Nat) :
    Keeps s (w.sendOf c n).toState := by
  simp only [Work.sendOf]
  repeat' split
  all_goals simp (maxDischargeDepth := 40) [h]

@[simp] theorem Keeps.enterClaimDest (h : Keeps s w.toState) (c : CraneId) (n : Nat) :
    Keeps s (w.enterClaimDest c n).toState := by
  unfold Work.enterClaimDest
  repeat' split
  · next e => exact (h.resolveSlot e).requestClaim c n
  · simp [h]
  · simp [h]

@[simp] theorem Keeps.leaveSource (h : Keeps s w.toState) (c : CraneId) (ph : Phase) :
    Keeps s (w.leaveSource c ph).toState := by
  unfold Work.leaveSource
  split
  · exact h
  · simp [h]

@[simp] theorem Keeps.enterPhase (h : Keeps s w.toState) (c : CraneId) (n : Nat) (ph : Phase) :
    Keeps s (w.enterPhase c n ph).toState := by
  simp only [Work.enterPhase]
  repeat' split
  all_goals simp (maxDischargeDepth := 40) [h]

@[simp] theorem Keeps.activate (h : Keeps s w.toState) (n : Nat) :
    Keeps s (w.activate n).toState := by
  simp only [Work.activate]
  repeat' split
  all_goals simp (maxDischargeDepth := 40) [h]

@[simp] theorem Keeps.popStack (h : Keeps s w.toState) (c : CraneId) :
    Keeps s (w.popStack c).toState := by
  simp only [Work.popStack]
  repeat' split
  all_goals simp (maxDischargeDepth := 40) [h]

theorem Keeps.settleClaims (h : Keeps s w.toState) : ∀ k, Keeps s (w.settleClaims k).toState := by
  intro k
  induction k generalizing w with
  | zero => exact h
  | succ k ih =>
    unfold Work.settleClaims
    repeat' split
    · exact ih (Keeps.retryAll (w := { w with retry := false }) h)
    · exact ih (h.popStack _)
    · exact ih h
    · exact h

/-! ### The end of a move (R103, R147) -/

@[simp] theorem Keeps.leaveLists (h : Keeps s w.toState) (n : Nat) :
    Keeps s (w.leaveLists n).toState := by
  exact h.mapMoves _ _

@[simp] theorem Keeps.closeEnded (h : Keeps s w.toState) (m : Move) :
    Keeps s (w.closeEnded m).toState := by
  simp only [Work.closeEnded]
  repeat' split
  all_goals simp (maxDischargeDepth := 40) [h]

@[simp] theorem Keeps.dropMove (h : Keeps s w.toState) (n : Nat) :
    Keeps s (w.dropMove n).toState := by
  exact ⟨h.kept, (List.filter_sublist.map _).trans h.moves, h.mode, h.working, h.fences⟩

@[simp] theorem Keeps.freeCrane (h : Keeps s w.toState) (c : CraneId) (n : Nat) :
    Keeps s (w.freeCrane c n).toState := by
  simp only [Work.freeCrane]
  repeat' split
  all_goals simp (maxDischargeDepth := 40) [h]

@[simp] theorem Keeps.clearActive (h : Keeps s w.toState) (id : MillId) (n : Nat) :
    Keeps s (w.modCoil id fun k => { k with active := if k.active = some n then none else k.active }).toState :=
  h.modCoil id _ fun _ => rfl

@[simp] theorem Keeps.endMove (h : Keeps s w.toState) (n : Nat) (st : MoveState) :
    Keeps s (w.endMove n st).toState := by
  simp only [Work.endMove]
  repeat' split
  all_goals simp (maxDischargeDepth := 40) [h]

@[simp] theorem Keeps.unpick (h : Keeps s w.toState) (b : BayId) (k n : Nat) :
    Keeps s (w.unpick b k n).toState := by
  simp only [Work.unpick]
  repeat' split
  all_goals simp (maxDischargeDepth := 40) [h]

@[simp] theorem Keeps.releaseAll (h : Keeps s w.toState) (m : Move) :
    Keeps s (w.releaseAll m).toState := by
  simp only [Work.releaseAll]
  repeat' split
  all_goals simp (maxDischargeDepth := 40) [h]

@[simp] theorem Keeps.unpark (h : Keeps s w.toState) (n : Nat) :
    Keeps s (w.unpark n).toState := by
  simp only [Work.unpark]
  repeat' split
  all_goals simp (maxDischargeDepth := 40) [h]

@[simp] theorem Keeps.cancelCore (h : Keeps s w.toState) (n : Nat) :
    Keeps s (w.cancelCore n).toState := by
  simp only [Work.cancelCore]
  repeat' split
  all_goals simp (maxDischargeDepth := 40) [h]

theorem keeps_cancelDown (k : Nat) : ∀ (w : Work) (n : Nat), Keeps w.toState (Work.cancelDown k w n).toState := by
  induction k with
  | zero => exact fun w n => (Keeps.refl _).cancelCore n
  | succ k ih => exact fun w n => Keeps.foldl _ ih _ _ ((Keeps.foldl _ ih _ _ (Keeps.refl _)).cancelCore n)

@[simp] theorem Keeps.cancelMove (h : Keeps s w.toState) (n : Nat) :
    Keeps s (w.cancelMove n).toState := h.trans (keeps_cancelDown 64 w n)

/-! ### The Dispatcher (R132 to R137) -/

@[simp] theorem Keeps.entryAssigned (h : Keeps s w.toState) (n : Nat) (m : Move) :
    Keeps s (w.entryAssigned n m).toState := by
  simp only [Work.entryAssigned]
  repeat' split
  all_goals simp (maxDischargeDepth := 40) [h]

@[simp] theorem Keeps.assign (h : Keeps s w.toState) (c : CraneId) (n : Nat) (m : Move) :
    Keeps s (w.assign c n m).toState := by
  simp only [Work.assign]
  all_goals simp (maxDischargeDepth := 40) [h]

@[simp] theorem Keeps.park (h : Keeps s w.toState) (c : CraneId) :
    Keeps s (w.park c).toState := by
  simp only [Work.park]
  repeat' split
  all_goals simp (maxDischargeDepth := 40) [h]

@[simp] theorem Keeps.treat (h : Keeps s w.toState) (n : Nat) :
    Keeps s (w.treat n).toState := by
  unfold Work.treat
  repeat' split
  all_goals first | exact h | exact Keeps.settleClaims (by simp (maxDischargeDepth := 40) [h]) _

@[simp] theorem Keeps.runDispatcher (h : Keeps s w.toState) :
    Keeps s (w.runDispatcher).toState := by
  unfold Work.runDispatcher
  split
  · exact Keeps.foldl _ (fun w n => by simp) _ _ h
  · exact h

/-- Everything an event owes at its end keeps. -/
@[simp] theorem Keeps.settle (h : Keeps s w.toState) : Keeps s w.settle.toState :=
  Keeps.runDispatcher (Keeps.settleClaims h.bayTests.grants _)

end

end Sys2Proof.Machine
end

