-- ==== Sys2Proof/Laws/FrameStatus.lean ====
section
/-! SUPPORT. What the Weighing Unit, the crane statuses, the timers and the bay lines leave alone. -/

namespace Sys2Proof.Machine

section
variable {s : State} {w : Work}

/-! ### The Weighing Unit (R52 to R78) -/

@[simp] theorem Keeps.unresolve (h : Keeps s w.toState) (n : Nat) :
    Keeps s (w.unresolve n).toState := by
  exact h.modMove n _

@[simp] theorem Keeps.reslot (h : Keeps s w.toState) (c : CraneId) (n : Nat) (old : Option Dest) :
    Keeps s (w.reslot c n old).toState := by
  unfold Work.reslot
  split
  · next e => exact (h.unresolve n).resolveSlot e
  · simp (maxDischargeDepth := 40) [h]

@[simp] theorem Keeps.moveCradle (h : Keeps s w.toState) (b : BayId) (k k' n : Nat) :
    Keeps s (w.moveCradle b k k' n).toState := by
  simp only [Work.moveCradle]
  repeat' split
  all_goals simp (maxDischargeDepth := 40) [h]

@[simp] theorem Keeps.recheckCradle (h : Keeps s w.toState) (c : CraneId) (n : Nat) (b : BayId) (k : Nat) (coil : Coil) :
    Keeps s (w.recheckCradle c n b k coil).toState := by
  simp only [Work.recheckCradle]
  repeat' split
  all_goals simp (maxDischargeDepth := 40) [h]

@[simp] theorem Keeps.revalidate (h : Keeps s w.toState) (c : CraneId) (n : Nat) (kind : ResultKind) (taken : Bool) :
    Keeps s (w.revalidate c n kind taken).toState := by
  simp only [Work.revalidate]
  repeat' split
  all_goals simp (maxDischargeDepth := 40) [h]

@[simp] theorem Keeps.leaveWeigh (h : Keeps s w.toState) (c : CraneId) (n : Nat) :
    Keeps s (w.leaveWeigh c n).toState := by
  simp only [Work.leaveWeigh]
  repeat' split
  all_goals simp (maxDischargeDepth := 40) [h]

@[simp] theorem Keeps.setMeasured (h : Keeps s w.toState) (id : MillId) (x : Option Measured) :
    Keeps s (w.modCoil id fun k => { k with measured := x }).toState := h.modCoil id _ fun _ => rfl

@[simp] theorem Keeps.endHook (h : Keeps s w.toState) (c : CraneId) (kind : ResultKind) (weight : Option Kg) :
    Keeps s (w.endHook c kind weight).toState := by
  simp only [Work.endHook]
  repeat' split
  all_goals simp (maxDischargeDepth := 40) [h]

@[simp] theorem Keeps.limitComparators (h : Keeps s w.toState) (c : CraneId) (e : CraneEntry) (v : Converted) :
    Keeps s (w.limitComparators c e v).toState := by
  simp only [Work.limitComparators]
  repeat' split
  all_goals simp (maxDischargeDepth := 40) [h]

@[simp] theorem Keeps.emptyHookComparator (h : Keeps s w.toState) (c : CraneId) (e : CraneEntry) (v : Converted) :
    Keeps s (w.emptyHookComparator c e v).toState := by
  simp only [Work.emptyHookComparator]
  repeat' split
  all_goals simp (maxDischargeDepth := 40) [h]

@[simp] theorem Keeps.hookValue (h : Keeps s w.toState) (c : CraneId) (n : Kg) :
    Keeps s (w.hookValue c n).toState := by
  simp only [Work.hookValue]
  repeat' split
  all_goals simp (maxDischargeDepth := 40) [h]

@[simp] theorem Keeps.craneSample (h : Keeps s w.toState) (c : CraneId) (st : Status) :
    Keeps s (w.craneSample c st).toState := by
  simp only [Work.craneSample]
  repeat' split
  all_goals simp (maxDischargeDepth := 40) [h]

@[simp] theorem Keeps.divertPhase (h : Keeps s w.toState) (c : CraneId) (n : Nat) (m : Move) :
    Keeps s (w.divertPhase c n m).toState := by
  simp only [Work.divertPhase]
  repeat' split
  all_goals simp (maxDischargeDepth := 40) [h]

@[simp] theorem Keeps.divertLoad (h : Keeps s w.toState) (n : Nat) (m : Move) :
    Keeps s (w.divertLoad n m).toState := by
  simp only [Work.divertLoad]
  split
  · simp (maxDischargeDepth := 40) [h]
  · next c _ =>
    have h1 : Keeps s (((w.giveUpCradle n false).unresolve n).divertPhase c n m).toState := by simp (maxDischargeDepth := 40) [h]
    split
    · exact h1.raise _ _ _ _
    · next e =>
      have h2 := h1.resolveSlot e
      repeat' split
      all_goals simp (maxDischargeDepth := 40) [h2]

@[simp] theorem Keeps.recheckOne (h : Keeps s w.toState) (n : Nat) :
    Keeps s (w.recheckOne n).toState := by
  simp only [Work.recheckOne]
  repeat' split
  all_goals simp (maxDischargeDepth := 40) [h]

@[simp] theorem Keeps.tareResult (h : Keeps s w.toState) (b : BayId) (g : Kg) :
    Keeps s (w.tareResult b g).toState := by
  simp only [Work.tareResult]
  repeat' split
  all_goals simp (maxDischargeDepth := 40) [h]

@[simp] theorem Keeps.setdownResult (h : Keeps s w.toState) (b : BayId) (entry : Option Nat) (g : Kg) :
    Keeps s (w.setdownResult b entry g).toState := by
  simp only [Work.setdownResult]
  repeat' split
  all_goals simp (maxDischargeDepth := 40) [h]

@[simp] theorem Keeps.recheckResult (h : Keeps s w.toState) (b : BayId) (g : Kg) :
    Keeps s (w.recheckResult b g).toState := by
  simp only [Work.recheckResult]
  repeat' split
  · exact h
  · simp (maxDischargeDepth := 40) [h]
  · exact Keeps.foldl _ (fun w n => by simp) _ _ (by simp (maxDischargeDepth := 40) [h])

@[simp] theorem Keeps.grossResult (h : Keeps s w.toState) (b : BayId) (g : Kg) :
    Keeps s (w.grossResult b g).toState := by
  simp only [Work.grossResult]
  repeat' split
  all_goals simp (maxDischargeDepth := 40) [h]

@[simp] theorem Keeps.zeroResult (h : Keeps s w.toState) (b : BayId) (capacity : Nat) (k : Kg) :
    Keeps s (w.zeroResult b capacity k).toState := by
  simp only [Work.zeroResult]
  repeat' split
  all_goals simp (maxDischargeDepth := 40) [h]

@[simp] theorem Keeps.endBay (h : Keeps s w.toState) (b : BayId) (e : BayEntry) (x : Session) (g : Kg) :
    Keeps s (w.endBay b e x g).toState := by
  simp only [Work.endBay]
  repeat' split
  all_goals simp (maxDischargeDepth := 40) [h]

@[simp] theorem Keeps.scanFails (h : Keeps s w.toState) (b : BayId) (changed : Bool) :
    Keeps s (w.scanFails b changed).toState := by
  simp only [Work.scanFails]
  repeat' split
  all_goals simp (maxDischargeDepth := 40) [h]

@[simp] theorem Keeps.scanPasses (h : Keeps s w.toState) (b : BayId) (e : BayEntry) (v : Converted) (gross : Kg) :
    Keeps s (w.scanPasses b e v gross).toState := by
  simp only [Work.scanPasses]
  repeat' split
  all_goals simp (maxDischargeDepth := 40) [h]

@[simp] theorem Keeps.takeScan (h : Keeps s w.toState) (b : BayId) (e : BayEntry) (v : Converted) :
    Keeps s (w.takeScan b e v).toState := by
  simp only [Work.takeScan]
  repeat' split
  all_goals simp (maxDischargeDepth := 40) [h]

/-! ### Crane statuses (R86 to R105) -/

@[simp] theorem Keeps.setLoc (h : Keeps s w.toState) (id : MillId) (p : Place) :
    Keeps s (w.modCoil id fun k => { k with loc := p }).toState := h.modCoil id _ fun _ => rfl

@[simp] theorem Keeps.setLocVisit (h : Keeps s w.toState) (id : MillId) (p : Place) (b : Option BayId) :
    Keeps s (w.modCoil id fun k => { k with loc := p, visit := b }).toState := h.modCoil id _ fun _ => rfl

@[simp] theorem Keeps.gripDone (h : Keeps s w.toState) (c : CraneId) (m : Move) :
    Keeps s (w.gripDone c m).toState := by
  simp only [Work.gripDone]
  repeat' split
  all_goals simp (maxDischargeDepth := 40) [h]

@[simp] theorem Keeps.setAtSlot (h : Keeps s w.toState) (n : Nat) (m : Move) (id : MillId) (a : SlotAddr) :
    Keeps s (w.setAtSlot n m id a).toState := by
  simp only [Work.setAtSlot]
  repeat' split
  all_goals simp (maxDischargeDepth := 40) [h]

@[simp] theorem Keeps.setAtCradle (h : Keeps s w.toState) (n : Nat) (id : MillId) (b : BayId) (k : Nat) :
    Keeps s ((w.setAtCradle n id b k).1).toState := by
  simp only [Work.setAtCradle]
  repeat' split
  all_goals simp (maxDischargeDepth := 40) [h]

@[simp] theorem Keeps.clearPutDown (h : Keeps s w.toState) (c : CraneId) (id : MillId) :
    Keeps s (w.clearPutDown c id).toState := by
  simp only [Work.clearPutDown]
  all_goals simp (maxDischargeDepth := 40) [h]

@[simp] theorem Keeps.setDone (h : Keeps s w.toState) (c : CraneId) (n : Nat) (m : Move) :
    Keeps s (w.setDone c n m).toState := by
  simp only [Work.setDone]
  repeat' split
  all_goals simp (maxDischargeDepth := 40) [h]

@[simp] theorem Keeps.keepPhase (h : Keeps s w.toState) (c : CraneId) (n : Nat) (ph : Phase) : Keeps s (w.keepPhase c n ph).toState := by
  simp only [Work.keepPhase]
  split <;> simp (maxDischargeDepth := 40) [h]

@[simp] theorem Keeps.advance (h : Keeps s w.toState) (c : CraneId) (n : Nat) (live : Bool) (ph : Phase) :
    Keeps s (w.advance c n live ph).toState := by
  simp only [Work.advance]
  repeat' split
  all_goals simp (maxDischargeDepth := 40) [h]

@[simp] theorem Keeps.travelDone (h : Keeps s w.toState) (c : CraneId) (n : Nat) (m : Move) (live : Bool) :
    Keeps s (w.travelDone c n m live).toState := by
  simp only [Work.travelDone]
  have h1 (b : BayId) : Keeps s (w.modBay b fun x => { x with lock := some n }).toState :=
    Keeps.modBay h b (fun x => { x with lock := some n }) fun _ => rfl
  repeat' split
  all_goals simp (maxDischargeDepth := 40) [h, h1]

@[simp] theorem Keeps.phaseDone (h : Keeps s w.toState) (c : CraneId) (n : Nat) (kind : OrderKind) (own : Bool) (st : Status) :
    Keeps s (w.phaseDone c n kind own st).toState := by
  simp only [Work.phaseDone]
  repeat' split
  all_goals simp (maxDischargeDepth := 40) [h]

@[simp] theorem Keeps.stopDone (h : Keeps s w.toState) (c : CraneId) (st : Status) :
    Keeps s (w.stopDone c st).toState := by
  simp only [Work.stopDone]
  repeat' split
  all_goals simp (maxDischargeDepth := 40) [h]

@[simp] theorem Keeps.abortDone (h : Keeps s w.toState) (c : CraneId) :
    Keeps s (w.abortDone c).toState := by
  simp only [Work.abortDone]
  repeat' split
  all_goals simp (maxDischargeDepth := 40) [h]

@[simp] theorem Keeps.orderDone (h : Keeps s w.toState) (c : CraneId) (o : Order) (st : Status) :
    Keeps s (w.orderDone c o st).toState := by
  simp only [Work.orderDone]
  repeat' split
  all_goals simp (maxDischargeDepth := 40) [h]

@[simp] theorem Keeps.dropOrder (h : Keeps s w.toState) (c : CraneId) (o : Order) :
    Keeps s (w.dropOrder c o).toState := by
  simp only [Work.dropOrder]
  all_goals simp (maxDischargeDepth := 40) [h]

@[simp] theorem Keeps.modOrder (h : Keeps s w.toState) (c : CraneId) (num : Nat) (f : Order → Order) :
    Keeps s (w.modOrder c num f).toState := by
  simp only [Work.modOrder]
  all_goals simp (maxDischargeDepth := 40) [h]

@[simp] theorem Keeps.orderFailed (h : Keeps s w.toState) (c : CraneId) (o : Order) (detail : Option Nat) :
    Keeps s (w.orderFailed c o detail).toState := by
  simp only [Work.orderFailed]
  repeat' split
  all_goals simp (maxDischargeDepth := 40) [h]

@[simp] theorem Keeps.readNamed (h : Keeps s w.toState) (c : CraneId) (o : Order) (st : Status) :
    Keeps s (w.readNamed c o st).toState := by
  simp only [Work.readNamed]
  repeat' split
  all_goals simp (maxDischargeDepth := 40) [h]

@[simp] theorem Keeps.readReplaced (h : Keeps s w.toState) (c : CraneId) (o : Order) (st : Status) :
    Keeps s (w.readReplaced c o st).toState := by
  simp only [Work.readReplaced]
  repeat' split
  all_goals simp (maxDischargeDepth := 40) [h]

@[simp] theorem Keeps.readOrder (h : Keeps s w.toState) (c : CraneId) (o0 : Option Order) (st : Status) :
    Keeps s (w.readOrder c o0 st).toState := by
  simp only [Work.readOrder]
  repeat' split
  all_goals simp (maxDischargeDepth := 40) [h]

@[simp] theorem Keeps.takeLast (h : Keeps s w.toState) (c : CraneId) (st : Status) :
    Keeps s (w.takeLast c st).toState := by
  simp only [Work.takeLast]
  all_goals simp (maxDischargeDepth := 40) [h]

@[simp] theorem Keeps.claimCheck (h : Keeps s w.toState) (c : CraneId) (st : Status) :
    Keeps s (w.claimCheck c st).toState := by
  simp only [Work.claimCheck]
  repeat' split
  all_goals simp (maxDischargeDepth := 40) [h]

@[simp] theorem Keeps.checkPair (h : Keeps s w.toState) (p : CraneId × CraneId) :
    Keeps s (w.checkPair p).toState := by
  simp only [Work.checkPair]
  have h1 (l : List (CraneId × CraneId)) : Keeps s { w.toState with runway := { w.runway with sepLatches := l } } :=
    ⟨h.kept, h.moves, h.mode, h.working, h.fences⟩
  repeat' split
  all_goals simp (maxDischargeDepth := 40) [h, h1]

@[simp] theorem Keeps.separationCheck (h : Keeps s w.toState) (c : CraneId) :
    Keeps s (w.separationCheck c).toState := by
  exact Keeps.foldl _ (fun w p => by simp) _ _ h

@[simp] theorem Keeps.driveCheck (h : Keeps s w.toState) (c : CraneId) (st : Status) :
    Keeps s (w.driveCheck c st).toState := by
  simp only [Work.driveCheck]
  repeat' split
  all_goals simp (maxDischargeDepth := 40) [h]

theorem Keeps.unlessStopped (h : Keeps s w.toState) (f : Work → Work) (hf : ∀ w : Work, Keeps s w.toState → Keeps s (f w).toState) :
    Keeps s (w.unlessStopped f).toState := by
  unfold Work.unlessStopped
  split
  · exact h
  · exact hf w h

@[simp] theorem Keeps.takeStatus (h : Keeps s w.toState) (c : CraneId) (st : Status) :
    Keeps s (w.takeStatus c st).toState := by
  simp only [Work.takeStatus]
  exact ((((h.takeLast c st).unlessStopped _ fun w h => by simp [h]).unlessStopped _ fun w h => by simp [h]).unlessStopped _
    fun w h => by simp [h]).readOrder c _ st |>.driveCheck c st

/-! ### Timers and lines (R65, R67, R93, R114, R151) -/

@[simp] theorem Keeps.restartWaitTimer (h : Keeps s w.toState) (c : CraneId) :
    Keeps s (w.restartWaitTimer c).toState := by
  simp only [Work.restartWaitTimer]
  repeat' split
  all_goals simp (maxDischargeDepth := 40) [h]

@[simp] theorem Keeps.claimTimeout (h : Keeps s w.toState) (c : CraneId) :
    Keeps s (w.claimTimeout c).toState := by
  simp only [Work.claimTimeout]
  repeat' split
  all_goals simp (maxDischargeDepth := 40) [h]

@[simp] theorem Keeps.divertMutual (h : Keeps s w.toState) (c other : CraneId) :
    Keeps s (w.divertMutual c other).toState := by
  simp only [Work.divertMutual]
  repeat' split
  all_goals first
    | exact h
    | simp (maxDischargeDepth := 40) [h]
    | skip
  all_goals
    next e =>
      refine Keeps.restartWaitTimer (Keeps.requestClaim (Keeps.withdraw (Keeps.reallocate ?_ e) _ _) _ _) _
      split <;> simp (maxDischargeDepth := 40) [h]

@[simp] theorem Keeps.waitExpires (h : Keeps s w.toState) (c : CraneId) :
    Keeps s (w.waitExpires c).toState := by
  simp only [Work.waitExpires]
  repeat' split
  all_goals simp (maxDischargeDepth := 40) [h]

@[simp] theorem Keeps.lateReport (h : Keeps s w.toState) (c : CraneId) :
    Keeps s (w.lateReport c).toState := by
  simp only [Work.lateReport]
  repeat' split
  all_goals simp (maxDischargeDepth := 40) [h]

@[simp] theorem Keeps.raiseLost (h : Keeps s w.toState) (c : CraneId) :
    Keeps s (w.raiseLost c).toState := by
  simp only [Work.raiseLost]
  all_goals simp (maxDischargeDepth := 40) [h]

@[simp] theorem Keeps.lostReport (h : Keeps s w.toState) (c : CraneId) :
    Keeps s (w.lostReport c).toState := by
  simp only [Work.lostReport]
  repeat' split
  all_goals simp (maxDischargeDepth := 40) [h]

@[simp] theorem Keeps.settleExpires (h : Keeps s w.toState) (o : Owner) :
    Keeps s (w.settleExpires o).toState := by
  simp only [Work.settleExpires]
  repeat' split
  all_goals simp (maxDischargeDepth := 40) [h]

@[simp] theorem Keeps.repeatBay (h : Keeps s w.toState) (b : BayId) :
    Keeps s (w.repeatBay b).toState := by
  simp only [Work.repeatBay]
  all_goals simp (maxDischargeDepth := 40) [h]

@[simp] theorem Keeps.endUnstable (h : Keeps s w.toState) (o : Owner) :
    Keeps s (w.endUnstable o).toState := by
  simp only [Work.endUnstable]
  repeat' split
  all_goals simp (maxDischargeDepth := 40) [h]

@[simp] theorem Keeps.tableCheck (h : Keeps s w.toState) :
    Keeps s (w.tableCheck).toState := by
  simp only [Work.tableCheck]
  repeat' split
  all_goals simp (maxDischargeDepth := 40) [h]

@[simp] theorem Keeps.baySecured (h : Keeps s w.toState) (b : BayId) :
    Keeps s (w.baySecured b).toState := by
  simp only [Work.baySecured]
  repeat' split
  all_goals simp (maxDischargeDepth := 40) [h]

@[simp] theorem Keeps.abortHolder (h : Keeps s w.toState) (b : BayId) :
    Keeps s (w.abortHolder b).toState := by
  simp only [Work.abortHolder]
  repeat' split
  all_goals simp (maxDischargeDepth := 40) [h]

@[simp] theorem Keeps.lineDrop (h : Keeps s w.toState) (b : BayId) :
    Keeps s (w.lineDrop b).toState := by
  simp only [Work.lineDrop]
  repeat' split
  all_goals simp (maxDischargeDepth := 40) [h]

@[simp] theorem Keeps.bayUnsecured (h : Keeps s w.toState) (b : BayId) :
    Keeps s (w.bayUnsecured b).toState := by
  simp only [Work.bayUnsecured]
  repeat' split
  all_goals simp (maxDischargeDepth := 40) [h]

@[simp] theorem Keeps.seeDeparture (h : Keeps s w.toState) (b : BayId) :
    Keeps s (w.seeDeparture b).toState := by
  simp only [Work.seeDeparture]
  repeat' split
  all_goals simp (maxDischargeDepth := 40) [h]

@[simp] theorem Keeps.followLine (h : Keeps s w.toState) (b : BayId) (before : Bay) :
    Keeps s (w.followLine b before).toState := by
  simp only [Work.followLine]
  repeat' split
  all_goals simp (maxDischargeDepth := 40) [h]

end

end Sys2Proof.Machine
end

