-- ==== Sys2Proof/Laws/PerInstr.lean ====
section
/-! SUPPORT. The family `Row`: each command of the opcode table as a telegram. Where the command is a request, its code is one of those of
section 10.3 and below 80H, the lengths it allows fit in a frame, some mode takes it, and the command is well-formed exactly when its body
fits in a frame (10.1, 10.3, R191, R207). -/

namespace Sys2Proof.Laws

open Sys2Proof.Machine

/-- What section 10.3 and R207 say of a command that is a request. -/
def Row.Statement (i : Instr) : Prop :=
  ∀ t, telegramOf i = some t →
    t.code ∈ requestCodes ∧ t.code < 128 ∧ (∀ n ∈ t.lengths, n ≤ 250) ∧ t.modes ≠ [] ∧ (i.wellFormed = true ↔ t.body.length ≤ 250)

/-- What holds of every command, its cases in one proof; the lemmas below name it for each constructor. -/
theorem Row.every (i : Instr) : Row.Statement i := by
  intro t h
  cases i <;> cases h <;> simp [requestCodes, Instr.wellFormed, bodyFits, anyMode]

theorem Row.powerOn : Row.Statement .powerOn := Row.every _
theorem Row.storeCheckEnd (intact : Bool) : Row.Statement (.storeCheckEnd intact) := Row.every _
theorem Row.identify (seq : Byte) (body : List Byte) : Row.Statement (.identify seq body) := Row.every _
theorem Row.status (seq : Byte) (body : List Byte) : Row.Statement (.status seq body) := Row.every _
theorem Row.cursorSet (seq : Byte) (body : List Byte) : Row.Statement (.cursorSet seq body) := Row.every _
theorem Row.readNext (seq : Byte) (body : List Byte) : Row.Statement (.readNext seq body) := Row.every _
theorem Row.noticeFetch (seq : Byte) (body : List Byte) : Row.Statement (.noticeFetch seq body) := Row.every _
theorem Row.layoutBegin (seq : Byte) (body : List Byte) : Row.Statement (.layoutBegin seq body) := Row.every _
theorem Row.layoutRunway (seq : Byte) (body : List Byte) : Row.Statement (.layoutRunway seq body) := Row.every _
theorem Row.layoutCrane (seq : Byte) (body : List Byte) : Row.Statement (.layoutCrane seq body) := Row.every _
theorem Row.layoutRow (seq : Byte) (body : List Byte) : Row.Statement (.layoutRow seq body) := Row.every _
theorem Row.layoutIntake (seq : Byte) (body : List Byte) : Row.Statement (.layoutIntake seq body) := Row.every _
theorem Row.layoutBay (seq : Byte) (body : List Byte) : Row.Statement (.layoutBay seq body) := Row.every _
theorem Row.layoutTuning (seq : Byte) (body : List Byte) : Row.Statement (.layoutTuning seq body) := Row.every _
theorem Row.layoutCommit (seq : Byte) (body : List Byte) : Row.Statement (.layoutCommit seq body) := Row.every _
theorem Row.storeWriteEnd (ok : Bool) : Row.Statement (.storeWriteEnd ok) := Row.every _
theorem Row.runStart (seq : Byte) (body : List Byte) : Row.Statement (.runStart seq body) := Row.every _
theorem Row.quiesce (seq : Byte) (body : List Byte) : Row.Statement (.quiesce seq body) := Row.every _
theorem Row.enterSetup (seq : Byte) (body : List Byte) : Row.Statement (.enterSetup seq body) := Row.every _
theorem Row.restart (seq : Byte) (body : List Byte) : Row.Statement (.restart seq body) := Row.every _
theorem Row.coilRegister (seq : Byte) (body : List Byte) : Row.Statement (.coilRegister seq body) := Row.every _
theorem Row.coilRemove (seq : Byte) (body : List Byte) : Row.Statement (.coilRemove seq body) := Row.every _
theorem Row.coilAnnounce (seq : Byte) (body : List Byte) : Row.Statement (.coilAnnounce seq body) := Row.every _
theorem Row.moveRequest (seq : Byte) (body : List Byte) : Row.Statement (.moveRequest seq body) := Row.every _
theorem Row.moveHold (seq : Byte) (body : List Byte) : Row.Statement (.moveHold seq body) := Row.every _
theorem Row.moveResume (seq : Byte) (body : List Byte) : Row.Statement (.moveResume seq body) := Row.every _
theorem Row.moveCancel (seq : Byte) (body : List Byte) : Row.Statement (.moveCancel seq body) := Row.every _
theorem Row.moveRedirect (seq : Byte) (body : List Byte) : Row.Statement (.moveRedirect seq body) := Row.every _
theorem Row.rowProtect (seq : Byte) (body : List Byte) : Row.Statement (.rowProtect seq body) := Row.every _
theorem Row.fenceAdd (seq : Byte) (body : List Byte) : Row.Statement (.fenceAdd seq body) := Row.every _
theorem Row.fenceRemove (seq : Byte) (body : List Byte) : Row.Statement (.fenceRemove seq body) := Row.every _
theorem Row.craneReinstate (seq : Byte) (body : List Byte) : Row.Statement (.craneReinstate seq body) := Row.every _
theorem Row.faultClear (seq : Byte) (body : List Byte) : Row.Statement (.faultClear seq body) := Row.every _
theorem Row.truckCheckin (seq : Byte) (body : List Byte) : Row.Statement (.truckCheckin seq body) := Row.every _
theorem Row.loadPlan (seq : Byte) (body : List Byte) : Row.Statement (.loadPlan seq body) := Row.every _
theorem Row.truckRelease (seq : Byte) (body : List Byte) : Row.Statement (.truckRelease seq body) := Row.every _
theorem Row.truckAbort (seq : Byte) (body : List Byte) : Row.Statement (.truckAbort seq body) := Row.every _
theorem Row.scaleZero (seq : Byte) (body : List Byte) : Row.Statement (.scaleZero seq body) := Row.every _
theorem Row.unknownCodeRequest (code : Byte) (seq : Byte) (body : List Byte) : Row.Statement (.unknownCodeRequest code seq body) := Row.every _
theorem Row.frameBrokenOff (got : List Byte) : Row.Statement (.frameBrokenOff got) := Row.every _
theorem Row.frameBadCrc (got : List Byte) : Row.Statement (.frameBadCrc got) := Row.every _
theorem Row.frameLengthOver (length : Byte) : Row.Statement (.frameLengthOver length) := Row.every _
theorem Row.requestDiscardedUnhandled (code seq : Byte) (body : List Byte) : Row.Statement (.requestDiscardedUnhandled code seq body) := Row.every _
theorem Row.replySent : Row.Statement .replySent := Row.every _
theorem Row.yardClockSecond : Row.Statement .yardClockSecond := Row.every _
theorem Row.minuteTick : Row.Statement .minuteTick := Row.every _
theorem Row.craneStatus (c : CraneId) (st : Status) : Row.Statement (.craneStatus c st) := Row.every _
theorem Row.craneStatusDiscarded (c : CraneId) (got : List Byte) : Row.Statement (.craneStatusDiscarded c got) := Row.every _
theorem Row.craneFrameBrokenOff (c : CraneId) : Row.Statement (.craneFrameBrokenOff c) := Row.every _
theorem Row.reportLate (c : CraneId) : Row.Statement (.reportLate c) := Row.every _
theorem Row.reportLost (c : CraneId) : Row.Statement (.reportLost c) := Row.every _
theorem Row.claimWaitExpiry (c : CraneId) : Row.Statement (.claimWaitExpiry c) := Row.every _
theorem Row.bayScan (b : BayId) (c1 c2 c3 c4 : Int) : Row.Statement (.bayScan b c1 c2 c3 c4) := Row.every _
theorem Row.settleExpiry (o : Owner) : Row.Statement (.settleExpiry o) := Row.every _
theorem Row.stabilityTimeout (o : Owner) : Row.Statement (.stabilityTimeout o) := Row.every _
theorem Row.bayLineChange (b : BayId) (l : Line) (asserted : Bool) : Row.Statement (.bayLineChange b l asserted) := Row.every _
theorem Row.lossOfSupply : Row.Statement .lossOfSupply := Row.every _

end Sys2Proof.Laws
end

