-- ==== Sys2Proof/Laws/Settle.lean ====
section
/-! SUPPORT. The end of an event: what `Work.finish` leaves alone, and when `Work.settle` starts nothing. -/

namespace Sys2Proof.Machine

/-! ### Folding notices into the queue (R194) -/

/-- What queueing notices does to a Link Controller: everything but the queue, its counter and the lost flag stays. -/
theorem queueNotice_frame (l : Link) (t : Nat) (b : NoticeBody) :
    (l.queueNotice t b).mode = l.mode ∧ (l.queueNotice t b).rx = l.rx ∧ (l.queueNotice t b).fetch = l.fetch
      ∧ (l.queueNotice t b).cursor = l.cursor ∧ (l.queueNotice t b).replies = l.replies := ⟨rfl, rfl, rfl, rfl, rfl⟩

/-- The queue never grows beyond 32. -/
theorem queueNotice_bound (l : Link) (t : Nat) (b : NoticeBody) (h : l.notices.length ≤ 32) :
    (l.queueNotice t b).notices.length ≤ 32 := by
  simp only [Link.queueNotice]
  split <;> simp <;> omega

/-- A fold of notices keeps the frame and the bound. -/
theorem queueNotices_frame (t : Nat) : ∀ (bs : List NoticeBody) (l : Link),
    let k := bs.foldl (fun l b => l.queueNotice t b) l
    k.mode = l.mode ∧ k.rx = l.rx ∧ k.fetch = l.fetch ∧ k.cursor = l.cursor ∧ k.replies = l.replies
      ∧ (l.notices.length ≤ 32 → k.notices.length ≤ 32)
  | [], l => by simp
  | b :: bs, l => by
    have ih := queueNotices_frame t bs (l.queueNotice t b)
    simp only [List.foldl_cons]
    obtain ⟨h1, h2, h3, h4, h5, h6⟩ := ih
    exact ⟨h1, h2, h3, h4, h5, fun h => h6 (queueNotice_bound l t b h)⟩

/-! ### Outputs (R127, R206) -/

/-- The condition that sets a PERMIT output is the rule's. -/
theorem permitCond_iff (s : State) (c : CraneId) : s.permitCond c = true ↔ s.permitRule c := by
  have hin : s.insideClaim c = true ↔ s.standsInClaim c := by
    unfold State.insideClaim State.standsInClaim
    cases he : s.layout.committed.cranes.get c <;> rcases hl : (s.cranes.get c).last with _ | ⟨st, t⟩ <;>
      cases hk : s.runway.claims.get c <;> simp [withinClaim]
  unfold State.permitCond State.permitRule
  simp only [Bool.and_eq_true, Bool.or_eq_true, decide_eq_true_eq, Bool.not_eq_true', hin, Option.isNone_iff_eq_none, and_assoc]

/-- A fault part is open where the indicators look for one. -/
theorem anyFault_iff (s : State) : s.anyFault = true ↔ s.faultOpen := by
  have hc : (allCranes.any fun c => (s.cranes.get c).fault.isSome) = true ↔ ∃ c, (s.cranes.get c).fault.isSome = true := by
    rw [List.any_eq_true]
    exact ⟨fun ⟨c, _, h⟩ => ⟨c, h⟩, fun ⟨c, h⟩ => ⟨c, by cases c <;> simp [allCranes], h⟩⟩
  unfold State.anyFault State.faultOpen
  simp only [Bool.or_eq_true, hc, or_assoc, List.any_eq_true, Table.vals, List.mem_map]
  constructor
  · rintro (⟨e, he, hf⟩ | h)
    · exact .inl ⟨e.2, ⟨e, he, rfl⟩, hf⟩
    · exact .inr h
  · rintro (⟨m, ⟨e, he, rfl⟩, hf⟩ | h)
    · exact .inl ⟨e, he, hf⟩
    · exact .inr h

/-- A state whose outputs have been set again shows them as the rules give them. -/
theorem refresh_outputs (s : State) : s.refresh.outputsAgree := by
  have hr : s.refresh.faultOpen ↔ s.faultOpen := Iff.rfl
  refine ⟨fun c => ?_, ?_, ?_⟩
  · rw [show s.refresh.runway.permit.get c = s.permitCond c by cases c <;> rfl, permitCond_iff]
    exact Iff.rfl
  · show s.ledCond.run = s.runLedRule
    unfold State.ledCond State.runLedRule
    cases s.power <;> cases s.link.mode <;> rfl
  · unfold State.faultLedRule
    rw [hr, ← anyFault_iff]
    show (s.power = .off → s.ledCond.fault = .off) ∧ _
    have hm : s.refresh.link.mode = s.link.mode := rfl
    have hp : s.refresh.power = s.power := rfl
    have hl : s.refresh.leds = s.ledCond := rfl
    rw [hm, hp, hl]
    unfold State.ledCond
    cases s.power <;> cases s.link.mode <;> cases s.anyFault <;> simp

/-! ### finish -/

section
variable (w : Work)

@[simp] theorem Work.finish_power : w.finish.power = w.power := rfl
@[simp] theorem Work.finish_layout : w.finish.layout = w.layout := rfl
@[simp] theorem Work.finish_yard : w.finish.yard = w.yard := rfl
@[simp] theorem Work.finish_coils : w.finish.coils = w.coils := rfl
@[simp] theorem Work.finish_weighing : w.finish.weighing = w.weighing := rfl
@[simp] theorem Work.finish_cranes : w.finish.cranes = w.cranes := rfl
@[simp] theorem Work.finish_moves : w.finish.moves = w.moves := rfl
@[simp] theorem Work.finish_bays : w.finish.bays = w.bays := rfl
@[simp] theorem Work.finish_coordFault : w.finish.coordFault = w.coordFault := rfl
@[simp] theorem Work.finish_clock : w.finish.clock = w.clock := rfl
@[simp] theorem Work.finish_sent : w.finish.sent = w.orders := rfl
@[simp] theorem Work.finish_eventNo : w.finish.eventNo = w.eventNo := rfl
@[simp] theorem Work.finish_pending : w.finish.pending = w.pending := rfl
@[simp] theorem Work.finish_claims : w.finish.runway.claims = w.runway.claims := rfl
@[simp] theorem Work.finish_waits : w.finish.runway.waits = w.runway.waits := rfl
@[simp] theorem Work.finish_yields : w.finish.runway.yields = w.runway.yields := rfl
@[simp] theorem Work.finish_fences : w.finish.runway.fences = w.runway.fences := rfl
@[simp] theorem Work.finish_frozen : w.finish.runway.frozen = w.runway.frozen := rfl
@[simp] theorem Work.finish_sepLatches : w.finish.runway.sepLatches = w.runway.sepLatches := rfl
@[simp] theorem Work.finish_runwayFault : w.finish.runway.fault = w.runway.fault := rfl

@[simp] theorem Work.finish_link : w.finish.link = w.out.foldl (fun l b => l.queueNotice w.clock b) w.link := rfl

/-- An event always ends with its outputs set (R127, R206). -/
theorem Work.finish_outputs : w.finish.outputsAgree := refresh_outputs _

end

/-! ### settle -/

/-- Nothing waits: a retry of every request changes nothing. -/
theorem retryAll_noWaits {w : Work} (h : w.runway.waits = .all none) : w.retryAll = w := by
  unfold Work.retryAll
  split
  · rfl
  · have : w.toState.waitOrder = [] := by
      simp [State.waitOrder, allCranes, h, PerCrane.all, PerCrane.get]
    rw [this]; rfl

/-- With no waits and no stack to pop, the claims settle without a change. -/
theorem settleClaims_idle {w : Work} (h : w.runway.waits = .all none) (hp : ∀ c, w.mayPop c = false) :
    (w.settleClaims settleFuel).toState = w.toState ∧ (w.settleClaims settleFuel).out = w.out
      ∧ (w.settleClaims settleFuel).orders = w.orders ∧ (w.settleClaims settleFuel).dispatch = w.dispatch
      ∧ (w.settleClaims settleFuel).test = w.test ∧ (w.settleClaims settleFuel).grant = w.grant := by
  have hf (v : Work) (hv : v.toState = w.toState) : allCranes.find? v.mayPop = none := by
    simp [allCranes, hv, hp]
  have pop (k : Nat) (v : Work) (hv : v.toState = w.toState) (hr : v.retry = false) :
      (v.settleClaims (k + 2)).toState = v.toState ∧ (v.settleClaims (k + 2)).out = v.out
      ∧ (v.settleClaims (k + 2)).orders = v.orders ∧ (v.settleClaims (k + 2)).dispatch = v.dispatch
      ∧ (v.settleClaims (k + 2)).test = v.test ∧ (v.settleClaims (k + 2)).grant = v.grant := by
    unfold Work.settleClaims
    by_cases hpop : v.pop = true
    · simp [hr, hpop, hf v hv, Work.settleClaims]
    · simp [hr, hpop]
  by_cases hr : w.retry = true
  · show (Work.settleClaims (62 + 2) w).toState = _ ∧ _
    unfold settleFuel Work.settleClaims
    rw [if_pos hr, retryAll_noWaits (w := { w with retry := false }) h]
    exact pop 61 { w with retry := false } rfl rfl
  · exact pop 62 w rfl (by simpa using hr)

/-- A queue of moves that find no crane is left as it is by a Dispatcher run. -/
theorem runDispatcher_idle {w : Work}
    (h : ∀ n ∈ w.moves.queue, ∀ m, w.findMove n = some m → m.dispatchable = true →
      w.chooseCrane m = none ∧ w.choosePreempted m = none) :
    w.runDispatcher.toState = w.toState ∧ w.runDispatcher.out = w.out ∧ w.runDispatcher.orders = w.orders := by
  unfold Work.runDispatcher
  split
  · have key : ∀ (l : List Nat), (∀ n ∈ l, n ∈ w.moves.queue) →
        l.foldl (fun w n => w.treat n) { w with dispatch := false } = { w with dispatch := false } := by
      intro l
      induction l with
      | nil => intro _; rfl
      | cons n l ih =>
        intro hl
        have ht : Work.treat { w with dispatch := false } n = { w with dispatch := false } := by
          unfold Work.treat
          split
          · rfl
          · next m hm =>
            split
            · next hd =>
              obtain ⟨h1, h2⟩ := h n (hl n (by simp)) m hm hd
              simp only [h1, h2]
            · rfl
        simp only [List.foldl_cons, ht]
        exact ih fun k hk => hl k (by simp [hk])
    rw [key _ fun _ hn => hn]
    exact ⟨rfl, rfl, rfl⟩
  · exact ⟨rfl, rfl, rfl⟩

/-- No move waits at a bay: grants that are owed give nothing. -/
theorem grants_noWaits {w : Work} (h : ∀ b, (w.bays.get b).waiting = []) :
    w.grants.toState = w.toState ∧ w.grants.out = w.out ∧ w.grants.orders = w.orders ∧ w.grants.retry = w.retry
      ∧ w.grants.pop = w.pop ∧ w.grants.dispatch = w.dispatch := by
  have one (v : Work) (b : BayId) (hv : v.toState = w.toState) :
      let u : Work := if v.grant.get b then { v with grant := v.grant.set b false }.tryGrant b else v
      u.toState = v.toState ∧ u.out = v.out ∧ u.orders = v.orders ∧ u.retry = v.retry ∧ u.pop = v.pop ∧ u.dispatch = v.dispatch := by
    have hb : ((Work.toState v).bays.get b).waiting = [] := by rw [hv]; exact h b
    by_cases hg : v.grant.get b = true
    · simp only [hg, if_true, Work.tryGrant, hb, and_self]
    · simp only [hg]; simp
  simp only [Work.grants, allBays, List.foldl_cons, List.foldl_nil]
  obtain ⟨a1, a2, a3, a4, a5, a6⟩ := one w .b1 rfl
  obtain ⟨b1, b2, b3, b4, b5, b6⟩ := one _ .b2 a1
  exact ⟨b1.trans a1, b2.trans a2, b3.trans a3, b4.trans a4, b5.trans a5, b6.trans a6⟩

/-- No test of R162 or R174 is owed. -/
theorem bayTests_none {w : Work} (h : w.test = .all false) : w.bayTests = w := by
  simp [Work.bayTests, allBays, h, PerBay.all, PerBay.get]

/-- An event that owes no bay test, with nothing waiting, no stack to pop and no queued move that finds a crane, is settled as it
stands. -/
theorem settle_idle {w : Work} (ht : w.test = .all false) (hw : w.noWaits) (hp : ∀ c, w.mayPop c = false)
    (hq : ∀ n ∈ w.moves.queue, ∀ m, w.findMove n = some m → m.dispatchable = true →
      w.chooseCrane m = none ∧ w.choosePreempted m = none) :
    w.settle.toState = w.toState ∧ w.settle.out = w.out ∧ w.settle.orders = w.orders := by
  unfold Work.settle
  rw [bayTests_none ht]
  obtain ⟨g1, g2, g3, -, -, -⟩ := grants_noWaits (w := w) hw.2
  obtain ⟨s1, s2, s3, -, -, -⟩ := settleClaims_idle (w := w.grants) (by rw [g1]; exact hw.1) (by rw [g1]; exact hp)
  obtain ⟨r1, r2, r3⟩ := runDispatcher_idle (w := w.grants.settleClaims settleFuel) (by rw [s1, g1]; exact hq)
  exact ⟨r1.trans (s1.trans g1), r2.trans (s2.trans g2), r3.trans (s3.trans g3)⟩

/-- An empty queue and empty stacks. -/
theorem settle_quiet {w : Work} (ht : w.test = .all false) (h : w.quiet) :
    w.settle.toState = w.toState ∧ w.settle.out = w.out ∧ w.settle.orders = w.orders :=
  settle_idle ht h.1 (fun c => by simp [State.mayPop, h.2.1 c]) (by simp [h.2.2])

/-- No crane is chosen from none. -/
theorem nearestCrane_nil (s : State) (m : Move) : s.nearestCrane m [] = none := rfl

/-- A found move stands in the table. -/
theorem findMove_mem {s : State} {n : Nat} {m : Move} (h : s.findMove n = some m) : m ∈ s.moves.table.vals :=
  List.mem_of_find?_eq_some h

/-- Cranes OUT of service and no ACTIVE move. -/
theorem settle_craneless {w : Work} (ht : w.test = .all false) (h : w.craneless) :
    w.settle.toState = w.toState ∧ w.settle.out = w.out ∧ w.settle.orders = w.orders := by
  refine settle_idle ht h.1 (fun c => by simp [State.mayPop, h.2.1 c]) fun n _ m _ _ => ⟨?_, ?_⟩
  · simp [State.chooseCrane, allCranes, State.isFree, h.2.1, nearestCrane_nil]
  · have hm (c : CraneId) : w.mayPreempt c m = false := by
      cases hc : w.currentMove c with
      | none => simp [State.mayPreempt, hc]
      | some k =>
        have : k.state ≠ .active := by
          refine h.2.2 k ?_
          simp only [State.currentMove, Option.bind_eq_some_iff] at hc
          obtain ⟨n, _, hn⟩ := hc
          exact findMove_mem hn
        simp [State.mayPreempt, hc, this]
    simp [State.choosePreempted, allCranes, hm, nearestCrane_nil]

/-- An event that owes nothing is settled as it stands. -/
theorem settle_none {w : Work} (ht : w.test = .all false) (hg : w.grant = .all false) (hr : w.retry = false) (hp : w.pop = false)
    (hd : w.dispatch = false) : w.settle = w := by
  unfold Work.settle
  rw [bayTests_none ht]
  have h2 : w.grants = w := by simp [Work.grants, allBays, hg, PerBay.all, PerBay.get]
  have h3 : w.settleClaims settleFuel = w := by simp [settleFuel, Work.settleClaims, hr, hp]
  rw [h2, h3]
  simp [Work.runDispatcher, hd]

/-- The state that an event leaves, from what its settled work holds. -/
theorem event_eq {s : State} {f : Work → Work} {v : Work} (h1 : (f (Work.start s)).settle.toState = v.toState)
    (h2 : (f (Work.start s)).settle.out = v.out) (h3 : (f (Work.start s)).settle.orders = v.orders) : s.event f = v.finish := by
  unfold State.event Work.finish
  rw [h1, h2, h3]

/-- What an event keeps, whatever it settles: the frame of its own effects. -/
theorem event_keeps {s v : State} {f : Work → Work} (h : Keeps v (f (Work.start s)).toState) :
    Keeps v (f (Work.start s)).settle.toState := h.settle

end Sys2Proof.Machine
end

