-- ==== Sys2Proof/Laws/Request.lean ====
section
/-! SUPPORT. What the event of a request telegram does, once for all requests: it is not heard, it is refused, or its handler answers. -/

namespace Sys2Proof.Machine

/-- A frame is neither handled nor answered without supply or before the end of the start-up check (R190). -/
theorem takeFrame_deaf {w : Work} (code : Nat) (seq : Byte) (h : Work → Handled) (hp : w.power ≠ .on) : w.takeFrame code seq h = w := by
  simp [Work.takeFrame, hp]

/-- A frame completed while 4 replies are held only ends its reception (R191). -/
theorem takeFrame_full {w : Work} (code : Nat) (seq : Byte) (h : Work → Handled) (hp : w.power = .on) (hr : 4 ≤ w.link.replies.length) :
    w.takeFrame code seq h = w.hunt := by
  simp [Work.takeFrame, hp, hr]

/-- A frame that is heard is handed to its handler, and the answer is held (R191). -/
theorem takeFrame_heard {w : Work} (code : Nat) (seq : Byte) (h : Work → Handled) (hl : w.listens) :
    w.takeFrame code seq h = Work.reply (h w.hunt) code seq := by
  have := hl.2
  simp [Work.takeFrame, hl.1]; omega

/-- An event that owes nothing at its end leaves the work as it is. -/
theorem event_none {s : State} {f : Work → Work} (ht : (f (Work.start s)).test = .all false) (hg : (f (Work.start s)).grant = .all false)
    (hr : (f (Work.start s)).retry = false) (hp : (f (Work.start s)).pop = false) (hd : (f (Work.start s)).dispatch = false) :
    s.event f = (f (Work.start s)).finish := by
  rw [State.event, settle_none ht hg hr hp hd]

/-- A request that is heard and passes checks 2 to 4 of R192 is answered by its handler. -/
theorem request_heard {s : State} {t : Taken} {seq : Byte} {body : List Byte} {h : Work → Handled} (hl : s.listens)
    (hf : t.fits body = true) (hb : s.busy = true → t.whileBusy = true) (hm : s.link.mode ∈ t.modes) :
    s.request t seq body h = (Work.reply (h (Work.start s).hunt) t.code seq).settle.finish := by
  unfold State.request State.event
  beta_reduce
  rw [takeFrame_heard _ _ _ (w := Work.start s) hl]
  have hb' : ((Work.start s).hunt.busy && !t.whileBusy) = false := by
    cases hbb : (Work.start s).hunt.busy
    · rfl
    · simp [hb hbb]
  have hm' : (Work.start s).hunt.link.mode ∈ t.modes := hm
  simp [Work.checked, hf, hb', hm']

/-- What a handler owes at the end is what its reply owes. -/
theorem reply_settle (r : Handled) (code : Nat) (seq : Byte) (ht : r.1.test = .all false) (hg : r.1.grant = .all false)
    (hr : r.1.retry = false) (hp : r.1.pop = false) (hd : r.1.dispatch = false) : (Work.reply r code seq).settle = Work.reply r code seq :=
  settle_none ht hg hr hp hd

/-- A request that is heard, whose handler owes nothing. -/
theorem request_plain {s : State} {t : Taken} {seq : Byte} {body : List Byte} {h : Work → Handled} (hl : s.listens)
    (hf : t.fits body = true) (hb : s.busy = true → t.whileBusy = true) (hm : s.link.mode ∈ t.modes)
    (ht : (h (Work.start s).hunt).1.test = .all false) (hg : (h (Work.start s).hunt).1.grant = .all false)
    (hr : (h (Work.start s).hunt).1.retry = false) (hp : (h (Work.start s).hunt).1.pop = false)
    (hd : (h (Work.start s).hunt).1.dispatch = false) :
    s.request t seq body h = (Work.reply (h (Work.start s).hunt) t.code seq).finish := by
  rw [request_heard hl hf hb hm, reply_settle _ _ _ ht hg hr hp hd]

/-- A handler that owes claims or a Dispatcher run, in a state where nothing waits and no queued move finds a crane. -/
theorem request_craneless {s : State} {t : Taken} {seq : Byte} {body : List Byte} {h : Work → Handled} (hl : s.listens)
    (hf : t.fits body = true) (hb : s.busy = true → t.whileBusy = true) (hm : s.link.mode ∈ t.modes)
    (ht : (h (Work.start s).hunt).1.test = .all false) (hc : (h (Work.start s).hunt).1.craneless) :
    s.request t seq body h = (Work.reply (h (Work.start s).hunt) t.code seq).finish := by
  rw [request_heard hl hf hb hm]
  obtain ⟨h1, h2, h3⟩ := settle_craneless (w := Work.reply (h (Work.start s).hunt) t.code seq) ht hc
  unfold Work.finish
  rw [h1, h2, h3]

/-- A handler that owes a Dispatcher run, with an empty queue and nothing waiting. -/
theorem request_quiet {s : State} {t : Taken} {seq : Byte} {body : List Byte} {h : Work → Handled} (hl : s.listens)
    (hf : t.fits body = true) (hb : s.busy = true → t.whileBusy = true) (hm : s.link.mode ∈ t.modes)
    (ht : (h (Work.start s).hunt).1.test = .all false) (hc : (h (Work.start s).hunt).1.quiet) :
    s.request t seq body h = (Work.reply (h (Work.start s).hunt) t.code seq).finish := by
  rw [request_heard hl hf hb hm]
  obtain ⟨h1, h2, h3⟩ := settle_quiet (w := Work.reply (h (Work.start s).hunt) t.code seq) ht hc
  unfold Work.finish
  rw [h1, h2, h3]

/-- A refusal changes nothing but what the Link Controller holds (R192). -/
theorem reply_refuse_finish (s : State) (code : Nat) (seq : Byte) (b : ReplyBody) :
    (Work.reply ((Work.start s).hunt, b) code seq).finish = State.after { s with link := s.link.answer code seq b } := rfl

/-- A request heard and refused by checks 2 to 4 of R192. -/
theorem request_refused {s : State} {t : Taken} {seq : Byte} {body : List Byte} {h : Work → Handled} {why : Reason} {d : Nat}
    (hl : s.listens) (hc : (Work.start s).hunt.checked t body h = (Work.start s).hunt.refuse why d) :
    s.request t seq body h = State.after { s with link := s.link.answer t.code seq (.refused why (BitVec.ofNat 8 d)) } := by
  unfold State.request State.event
  beta_reduce
  rw [takeFrame_heard _ _ _ (w := Work.start s) hl, hc]
  show (Work.reply ((Work.start s).hunt, _) _ _).settle.finish = _
  rw [reply_settle _ _ _ rfl rfl rfl rfl rfl]
  rfl

/-- A request that is not heard. -/
theorem request_deaf {s : State} {t : Taken} {seq : Byte} {body : List Byte} {h : Work → Handled} (hp : s.power ≠ .on) :
    s.request t seq body h = s.after := by
  unfold State.request
  rw [event_none] <;> rw [takeFrame_deaf _ _ _ (w := Work.start s) hp] <;> rfl

/-- A request that is discarded because 4 replies are held. -/
theorem request_full {s : State} {t : Taken} {seq : Byte} {body : List Byte} {h : Work → Handled} (hp : s.power = .on)
    (hr : 4 ≤ s.link.replies.length) : s.request t seq body h = State.after { s with link := { s.link with rx := .hunt } } := by
  unfold State.request
  rw [event_none] <;> rw [takeFrame_full _ _ _ (w := Work.start s) hp hr] <;> rfl

end Sys2Proof.Machine
end

