-- ==== Sys2Proof/Tests/Slice0.lean ====
section
/-! SUPPORT. The model's own tests: the smoke test of WellFormed, values worked in the manual, and for every statement that has hypotheses
states and operands that meet them. -/

namespace Sys2Proof.Tests

open Sys2Proof Sys2Proof.Machine

set_option Elab.async false

/-! ### Helpers: the layout of section 1.7 and small states over it -/

/-- A crane entry with half-width `h`, rated load 35,000 kg, tong tare 3,000 kg and spans of one gram a count. -/
def entry (h : Nat) : CraneEntry := { h := h, swl := 35000, tare := 3000, z1 := 0, z2 := 0, s1 := 65536, s2 := 65536 }

/-- The bay of section 1.7. -/
def bayA : BayEntry :=
  { bx0 := 2000, bx1 := 4200, xk := 2300, yt := 1200, capacity := 60000, z1 := 0, z2 := 0, z3 := 0, z4 := 0
    s1 := 65536, s2 := 65536, s3 := 65536, s4 := 65536 }

/-- The layout of section 1.7. -/
def layoutA : Image :=
  { size := some ⟨24000, 2400⟩
    cranes := ⟨some (entry 650), some (entry 650), some (entry 700), some (entry 650)⟩
    rows := [(7, { x := 8400, y0 := 350, pitch := 210, b := 9, odMin := 1000, odMax := 2200, maxWidth := 1800 }),
      (8, { x := 8950, y0 := 300, pitch := 215, b := 6, odMin := 1000, odMax := 2200, maxWidth := 1800 })]
    intake := some ⟨1500, 600, 1400⟩
    bays := ⟨some bayA, none⟩ }

/-- The coordinator up in a mode, with that layout and nothing in the yard. -/
def up (m : Mode) : State :=
  { power := .on
    layout :=
      { nv := ⟨layoutA, 3, true⟩, committed := layoutA, edition := 3, valid := true
        working := if m = .setup then some layoutA else none }
    link := { mode := m } }

/-- A mill ID whose last character is a digit. -/
def idOf (n : Nat) : MillId := List.replicate 11 0x30#8 ++ [BitVec.ofNat 8 (0x30 + n)]

/-- A truck ID. -/
def truckA : TruckId := List.replicate 16 0x41#8

/-- A COLD coil of 10,000 kg at a place. -/
def coilAt (n : Nat) (p : Place) : Coil :=
  { id := idOf n, loc := p, declared := 10000, measured := none, od := 1500, width := 1200, thermal := .cold, active := none, visit := none }

/-- A bottom slot of row 7. -/
def bot (p : Nat) : SlotAddr := ⟨7, .bottom, p⟩

/-- A still status of an empty hook at a position. -/
def statusAt (x y : Nat) : Status :=
  { order := 0, ostate := .idle, x := x, y := y, hook := .opened, hoist := .up, still := true, c1 := 1500000, c2 := 1500000, drive := 0 }

/-- A crane record IN service that last reported at a position. -/
def inAt (x y : Nat) : CraneRec :=
  { service := .inService, seen := true, last := some (statusAt x y, 0), timer := true, fresh := true }

/-- A visit of a truck with one empty cradle, its trailer 1,000 cm long. -/
def visitA (st : VisitState) : Visit :=
  { truck := truckA, l := 1000, cradles := [{ d := 610, maxWeight := 30000, maxOd := 2000 }], tk := 4000, ta := 6000
    kMax := 20000, aMax := 24000, gMax := 40000, state := st }

/-- A state with the visit at bay 1. -/
def withTruck (s : State) (st : VisitState) : State :=
  { s with bays := s.bays.set .b1 { s.bays.b1 with visit := some (visitA st) } }

/-- A state with one coil in a bottom slot of row 7. -/
def withCoil (s : State) (n p : Nat) : State :=
  { s with
    coils := s.coils.put n (coilAt n (.slot (bot p)))
    yard := { s.yard with slots := s.yard.slots.put (bot p).key ⟨bot p, .occupied (idOf n)⟩ } }

/-- Bytes written as numbers. -/
def bytes (l : List Nat) : List Byte := l.map (BitVec.ofNat 8)

/-- A request passes checks 2 to 4 of R192, decided. -/
def hears (s : State) (i : Instr) : Bool :=
  match telegramOf i with
  | some t => decide (s.power = .on) && decide (s.link.replies.length < 4) && t.lengths.contains t.body.length
      && (s.layout.writing.isNone || t.whileBusy) && t.modes.contains s.link.mode
  | none => false

/-- What is decided is what the statements ask. -/
theorem hears_takes {s : State} {i : Instr} (h : hears s i = true) : s.takes i := by
  unfold hears at h
  split at h
  · next t ht => exact ⟨t, ht, by simp_all [State.listens]⟩
  · cases h

/-! ### WellFormed refuses what no frame, converter or status can carry -/

/-- A body of the longest length and one byte more. -/
def longBody (n : Nat) : List Byte := List.replicate n 0#8

theorem test_body_250_wf : (Instr.identify 0 (longBody 250)).wellFormed = true := by decide +kernel
theorem test_body_251_refused : (Instr.identify 0 (longBody 251)).wellFormed = false := by decide +kernel
theorem test_known_code_refused : (Instr.unknownCodeRequest 0x74 0 []).wellFormed = false := by decide +kernel
theorem test_unknown_code_wf : (Instr.unknownCodeRequest 0x75 0 []).wellFormed = true := by decide +kernel
theorem test_broken_off_nothing_refused : (Instr.frameBrokenOff []).wellFormed = false := by decide +kernel
theorem test_bad_crc_short_refused : (Instr.frameBadCrc (longBody 5)).wellFormed = false := by decide +kernel
theorem test_length_250_refused : (Instr.frameLengthOver 250).wellFormed = false := by decide +kernel
theorem test_length_251_wf : (Instr.frameLengthOver 251).wellFormed = true := by decide +kernel
theorem test_scan_over_refused : (Instr.bayScan .b1 8388608 0 0 0).wellFormed = false := by decide +kernel
theorem test_scan_limit_wf : (Instr.bayScan .b1 8388607 (-8388608) 0 0).wellFormed = true := by decide +kernel
theorem test_status_order_refused : (Instr.craneStatus .c1 { statusAt 0 0 with order := 256 }).wellFormed = false := by decide +kernel
theorem test_status_x_refused : (Instr.craneStatus .c1 { statusAt 65536 0 with order := 0 }).wellFormed = false := by decide +kernel
theorem test_status_y_refused : (Instr.craneStatus .c1 { statusAt 0 65536 with order := 0 }).wellFormed = false := by decide +kernel
theorem test_status_c1_refused : (Instr.craneStatus .c1 { statusAt 0 0 with c1 := -8388609 }).wellFormed = false := by decide +kernel
theorem test_status_c2_refused : (Instr.craneStatus .c1 { statusAt 0 0 with c2 := 8388608 }).wellFormed = false := by decide +kernel
theorem test_status_drive_refused : (Instr.craneStatus .c1 { statusAt 0 0 with drive := 256 }).wellFormed = false := by decide +kernel

/-! ### Values worked in the manual -/

/-- 10.1: the CRC of the digits 1 to 9 is 29B1H. -/
theorem test_crc : crc16 (bytes [0x31, 0x32, 0x33, 0x34, 0x35, 0x36, 0x37, 0x38, 0x39]) = 0x29B1 := by decide +kernel

/-- Section 1.7, slot positions. -/
theorem test_slot_positions :
    layoutA.slotPos (bot 9) = some (8400, 2030) ∧ layoutA.slotPos ⟨7, .top, 8⟩ = some (8400, 1925)
      ∧ layoutA.slotPos ⟨8, .top, 1⟩ = some (8950, 407) ∧ layoutA.slotPos ⟨8, .top, 5⟩ = some (8950, 1267) := by decide +kernel

/-- Section 1.7: 17 slots in row 7 and 11 in row 8. -/
theorem test_slot_count : layoutA.slots.length = 28 := by decide +kernel

/-- Section 1.7: the image passes every check of R12; with crane 3 at 1,000 cm and row 2 at 1,000 it fails check 42. -/
theorem test_image_checks :
    layoutA.commitFault = none ∧
      ({ layoutA with
          cranes := layoutA.cranes.set .c3 (some (entry 1000))
          rows := layoutA.rows.put 2 { x := 1000, y0 := 300, pitch := 200, b := 4, odMin := 1000, odMax := 2200, maxWidth := 1800 } } :
        Image).commitFault = some 42 := by decide +kernel

/-- R58: −37.5 rounds to −38. -/
theorem test_round_away : roundAway (-75) 2 = -38 ∧ roundAway 75 2 = 38 ∧ roundAway (-74) 2 = -37 := by decide +kernel

/-- Section 4.9 (5): the sample of crane 2 shows a net load of 19,452 kg. -/
theorem test_hook_sample :
    netLoad { entry 650 with tare := 4350, z1 := 12500, z2 := 10000, s1 := 262144, s2 := 263000 }
      (craneConvert { entry 650 with tare := 4350, z1 := 12500, z2 := 10000, s1 := 262144, s2 := 263000 }
        { statusAt 0 0 with c1 := 3012500, c2 := 2951003 }) = 19452 := by decide +kernel

/-- Section 4.9 (6), (7): the window is not stable with 19,510, and then gives 19,450 kg. -/
theorem test_hook_window :
    windowStable 8 40 [19510, 19452, 19468, 19440, 19455, 19461, 19449, 19458] = false
      ∧ pushWindow 8 [19510, 19452, 19468, 19440, 19455, 19461, 19449, 19458] 19447
          = [19452, 19468, 19440, 19455, 19461, 19449, 19458, 19447]
      ∧ windowStable 8 40 [19452, 19468, 19440, 19455, 19461, 19449, 19458, 19447] = true
      ∧ windowResult 10 8 [19452, 19468, 19440, 19455, 19461, 19449, 19458, 19447] = 19450 := by decide +kernel

/-- Section 4.10 (3), (4): the scan shows 17,971 kg, and the window gives 17,940 kg. -/
theorem test_bay_window :
    (convert [(2520000, 20000, 131072), (2465000, -15000, 131072), (2020000, 10000, 131072), (2000000, 4500, 131072)]).k = 17971
      ∧ windowResult 20 8 [17931, 17925, 17940, 17936, 17929, 17933, 17938, 17927] = 17940 := by decide +kernel

/-- Section 8.12: the axle shares of 19,000 and 19,450 kg. -/
theorem test_axle_shares :
    axleShare 19000 610 1130 = 10257 ∧ kingpinShare 19000 610 1130 = 8743 ∧ axleShare 19450 610 1130 = 10500
      ∧ kingpinShare 19450 610 1130 = 8950 := by decide +kernel

/-- R129, R22: the counters go round. -/
theorem test_counters : nextCount 65535 65535 = 1 ∧ nextCount 255 254 = 255 ∧ nextSecond 4294967295 = 0 := by decide +kernel

/-- An empty queue idles (notes/assumptions/1.md). -/
theorem test_idle : step (up .run) = .next (up .run) := rfl

/-- No word spells a command: the table gives its rows no bits. -/
theorem test_no_words : decodeTableWord 8 1 = none ∧ State.withFetchWord State.reset 8 1 = State.reset := ⟨rfl, rfl⟩

/-! ### States and operands that meet the hypotheses of the statements -/

/-- The outputs of a state that an event has left. -/
def running : State := State.after { up .run with pending := [.yardClockSecond] }

theorem wit_OutputsAgreeKept : running.outputsAgree ∧ ∃ t, step running = .next t := ⟨refresh_outputs _, _, rfl⟩

theorem wit_BoundedKept : running.bounded ∧ ∃ t, step running = .next t := by
  refine ⟨⟨⟨rfl, ?_⟩, ⟨rfl, ?_⟩, ?_, ?_⟩, _, rfl⟩ <;> decide +kernel

theorem wit_OrderedKept : running.ordered ∧ ∃ t, step running = .next t := by
  have hn (img : Image) (h : (none : Option Image) = some img) : img.rowsOrdered := by cases h
  refine ⟨⟨⟨rfl, ?_⟩, ⟨rfl, ?_⟩, hn, hn, ⟨rfl, ?_⟩⟩, _, rfl⟩ <;> decide +kernel

theorem wit_StoppedByFaultKept : running.stoppedByFault ∧ ∃ t, step running = .next t := by
  have h1 : running.link.mode = .run := rfl
  have h2 : running.coordFault = none := rfl
  exact ⟨by simp [State.stoppedByFault, h1, h2], _, rfl⟩

/-- Two cranes with claims apart. -/
def twoCranes : State :=
  { up .run with
    cranes := ⟨inAt 700 300, inAt 8000 300, {}, {}⟩
    runway := { (up .run).runway with claims := ⟨some ⟨0, 1550, .stationary⟩, some ⟨7150, 8850, .stationary⟩, none, none⟩ } }

theorem wit_ClaimsKeptApart :
    twoCranes.claimsApart ∧ (∃ t, step twoCranes = .next t) ∧ twoCranes.claimsDisjoint
      ∧ (∀ d k, twoCranes.runway.claims.get d = some k → k.lo ≤ k.hi)
      ∧ (Work.start twoCranes).blocker .c1 (addedStretch (twoCranes.runway.claims.get .c1) (twoCranes.requestedClaim .c1 6299)) = none := by
  refine ⟨?_, ⟨_, rfl⟩, ?_, ?_, by decide +kernel⟩
  · intro c k x hk h1 h2
    refine ⟨fun d l hd hl => ?_, fun e he => absurd he (by simp [twoCranes, up])⟩
    cases c <;> cases d <;> simp [twoCranes, PerCrane.get] at hd hk hl <;> subst hk hl <;> (intro h3; obtain ⟨h3, h4⟩ := h3; change (_ : Int) ≤ _ at h1 h2 h3 h4; dsimp only at h1 h2 h3 h4; omega)
  · intro c d k l h hk hl
    cases c <;> cases d <;> simp [twoCranes, PerCrane.get] at h hk hl <;> subst hk hl <;> simp
  · intro d k hk
    cases d <;> simp [twoCranes, PerCrane.get] at hk <;> subst hk <;> simp

theorem wit_CommittedImageFrame :
    (∃ t, exec .minuteTick (up .run) = .next t) ∧ Instr.minuteTick ≠ .powerOn ∧ Instr.minuteTick ≠ .lossOfSupply
      ∧ (∀ b, Instr.minuteTick ≠ .storeCheckEnd b) ∧ ∀ b, Instr.minuteTick ≠ .storeWriteEnd b := ⟨⟨_, rfl⟩, nofun, nofun, nofun, nofun⟩

theorem wit_ClockAndLinesFrame :
    (∃ t, exec .replySent (up .run) = .next t) ∧ Instr.replySent ≠ .yardClockSecond ∧ Instr.replySent ≠ .minuteTick
      ∧ Instr.replySent ≠ .powerOn ∧ Instr.replySent ≠ .lossOfSupply ∧ ∀ b l x, Instr.replySent ≠ .bayLineChange b l x :=
  ⟨⟨_, rfl⟩, nofun, nofun, nofun, nofun, nofun⟩

theorem wit_CoilIdentityFrame :
    (∃ t, exec .minuteTick (withCoil (up .run) 1 3) = .next t) ∧ (∀ q b, Instr.minuteTick ≠ .coilRegister q b)
      ∧ ∀ q b, Instr.minuteTick ≠ .coilAnnounce q b := ⟨⟨_, rfl⟩, nofun, nofun⟩

theorem wit_SupplyAndStoreCheck :
    State.reset.power = .checking ∧ State.reset.layout.nv.complete = false
      ∧ ({ State.reset with layout := { nv := ⟨layoutA, 3, true⟩ } } : State).layout.nv.complete = true := by decide +kernel

/-- A store write under way. -/
def writing : State := { up .setup with layout := { (up .setup).layout with writing := some layoutA } }

theorem wit_StoreWriteEnds : writing.layout.writing = some layoutA ∧ writing.layout.committed.cranes.get .c1 ≠ none := by decide +kernel

theorem wit_IdentifyAndStatusAnswer : (up .stopped).listens := by unfold State.listens; decide +kernel

theorem wit_CursorSetAndReadNext :
    ((up .run).takes (.cursorSet 1 (bytes [1, 0, 29])) ∧ tableOf 1 = some .slots ∧ 29 < (up .run).recordCount .slots)
      ∧ ((up .run).takes (.cursorSet 1 (bytes [1, 0, 30])) ∧ (up .run).recordCount .slots ≤ 30)
      ∧ ((up .run).takes (.cursorSet 1 (bytes [6, 0, 0])) ∧ 5 < u8At (bytes [6, 0, 0]) 1)
      ∧ ((up .run).takes (.readNext 1 (bytes [0])) ∧ (up .run).takes (.readNext 1 (bytes [9])))
      ∧ (up .run).takes (.readNext 1 (bytes [8])) ∧ (up .run).link.cursor = (.coils, 0) ∧ u8At (bytes [8]) 1 = 8 :=
  ⟨⟨hears_takes (by decide +kernel), by decide +kernel⟩, ⟨hears_takes (by decide +kernel), by decide +kernel⟩, ⟨hears_takes (by decide +kernel), by decide +kernel⟩,
    ⟨hears_takes (by decide +kernel), hears_takes (by decide +kernel)⟩, hears_takes (by decide +kernel), by decide +kernel⟩

/-- A queue of one notice, fetched under sequence byte 1. -/
def fetched : State :=
  { up .run with link := { (up .run).link with
      notices := [⟨2, 0, .storeDone true⟩], noticeCount := 2, fetch := some (1, [⟨1, 0, .storeDone false⟩]) } }

theorem wit_NoticeFetchTakesOrRepeats :
    (fetched.takes (.noticeFetch 1 (bytes [1])) ∧ fetched.link.fetch = some (1, [⟨1, 0, .storeDone false⟩]))
      ∧ (fetched.takes (.noticeFetch 2 (bytes [8])) ∧ ∀ l, fetched.link.fetch ≠ some (2, l))
      ∧ fetched.takes (.noticeFetch 1 (bytes [9])) ∧ ¬ u8At (bytes [9]) 1 ≤ 8 := by
  refine ⟨⟨hears_takes (by decide +kernel), by decide +kernel⟩, ⟨hears_takes (by decide +kernel), ?_⟩, hears_takes (by decide +kernel), by decide +kernel⟩
  intro l h; simp [fetched] at h

theorem wit_FramesAndReplies :
    (up .run).received .c1 [] = .error .badLength ∧ (up .run).listens ∧ ({ up .run with link := { (up .run).link with replies := [⟨0x81, 1, .accepted⟩] } } : State).link.replies
      = ⟨0x81, 1, .accepted⟩ :: [] := ⟨rfl, by unfold State.listens; decide +kernel, rfl⟩

theorem wit_RequestChecksInOrder :
    ((telegramOf (.quiesce 1 [0])).isSome = true ∧ (up .run).listens)
      ∧ ((telegramOf (.quiesce 1 [])).map (fun t => (t.lengths.contains t.body.length, t.whileBusy)) = some (true, false)
          ∧ writing.listens ∧ writing.layout.writing ≠ none)
      ∧ ((telegramOf (.quiesce 1 [])).map (fun t => t.modes.contains .setup) = some false ∧ (up .setup).listens
          ∧ (up .setup).layout.writing = none) := by
  unfold State.listens; decide +kernel

/-- Bodies that set an entry, with items at ends of their ranges. -/
def craneBody (a : Nat) : List Byte :=
  bytes [1, a] ++ u16 300 ++ u16 60000 ++ u16 15000 ++ s24 0 ++ s24 (-1) ++ u32 1 ++ u32 4000000
def rowBody (a : Nat) : List Byte := bytes [40, a] ++ u16 65000 ++ u16 0 ++ u16 400 ++ bytes [2] ++ u16 800 ++ u16 2500 ++ u16 600
def bayBody (a : Nat) : List Byte :=
  bytes [2, a] ++ u16 100 ++ u16 1700 ++ u16 100 ++ u16 4000 ++ u32 80000 ++ s24 0 ++ s24 0 ++ s24 0 ++ s24 (-8388608) ++ u32 1 ++ u32 1
    ++ u32 1 ++ u32 4000000

/-- The fields before the one at a position are right, and it is at fault. -/
theorem fault_at {l before rest : List (Nat × Prop)} {p : Nat} {P : Prop} (h : l = before ++ (p, P) :: rest) (hn : ¬ P)
    (hb : ∀ x ∈ before, x.2) : firstFault l p := ⟨before, P, rest, h, hn, hb⟩

theorem none_before : ∀ x ∈ ([] : List (Nat × Prop)), x.2 := nofun

theorem and_before {p : Nat} {P : Prop} {l : List (Nat × Prop)} (h : P) (hl : ∀ x ∈ l, x.2) : ∀ x ∈ (p, P) :: l, x.2 := by
  intro x hx
  rcases List.mem_cons.mp hx with rfl | hx
  · exact h
  · exact hl x hx

/-- Fields at fault: a runway one centimetre short, a crane number 5, a row whose OD range is empty, a bay too short for its x_k, a trolley position
of the intake out of range, a coil whose cooling time is a minute too long, a slot in tier 2, a truck ID with a small letter. -/
theorem wit_RequestChecksInOrder_fields :
    (let i : Instr := .layoutRunway 1 (u16 1999 ++ u16 4000 ++ u16 0 ++ u16 0 ++ u16 0);
      (up .setup).takes i ∧ firstFault (fieldsOf (up .setup) i) 1)
    ∧ (let i : Instr := .layoutCrane 1 (bytes [5] ++ (craneBody 0).drop 1);
      (up .setup).takes i ∧ firstFault (fieldsOf (up .setup) i) 1)
    ∧ (let i : Instr := .layoutRow 1 (bytes [40, 0] ++ u16 65000 ++ u16 0 ++ u16 400 ++ bytes [2] ++ u16 2001 ++ u16 2000 ++ u16 600);
      (up .setup).takes i ∧ firstFault (fieldsOf (up .setup) i) 10)
    ∧ (let i : Instr := .layoutIntake 1 (u16 65000 ++ u16 4001 ++ u16 4001);
      (up .setup).takes i ∧ firstFault (fieldsOf (up .setup) i) 3)
    ∧ (let i : Instr := .layoutBay 1 (bytes [2, 0] ++ u16 100 ++ u16 1700 ++ u16 101 ++ (bayBody 0).drop 8);
      (up .setup).takes i ∧ firstFault (fieldsOf (up .setup) i) 7)
    ∧ (let i : Instr := .coilAnnounce 1 (idOf 1 ++ u16 10000 ++ u16 1500 ++ u16 1200 ++ u16 4321 ++ bytes [3, 8]);
      (up .run).takes i ∧ firstFault (fieldsOf (up .run) i) 19)
    ∧ (let i : Instr := .coilRegister 1 (idOf 1 ++ u16 10000 ++ u16 1500 ++ u16 1200 ++ u16 4320 ++ bytes [40, 2, 12]);
      (up .setup).takes i ∧ firstFault (fieldsOf (up .setup) i) 21)
    ∧ (let i : Instr := .truckCheckin 1 (bytes [2] ++ List.replicate 15 0x41#8 ++ [0x61#8] ++ List.replicate 37 0);
      (up .run).takes i ∧ firstFault (fieldsOf (up .run) i) 2) := by
  have hid (tail : List Byte) : millIdOk (fieldBytes (idOf 1 ++ tail) 1 12) := by
    show millIdOk (idOf 1)
    have : (idOf 1).all (fun x => decide (0x30 ≤ x.toNat ∧ x.toNat ≤ 0x39)) = true := by decide +kernel
    exact fun x hx => .inl (by simpa using List.all_eq_true.mp this x hx)
  refine ⟨⟨hears_takes (by decide +kernel), fault_at (before := []) rfl (by unfold within; decide +kernel) none_before⟩,
    ⟨hears_takes (by decide +kernel), fault_at (before := []) rfl (by unfold within; decide +kernel) none_before⟩,
    ⟨hears_takes (by decide +kernel), fault_at (before := [(1, _), (2, _), (3, _), (5, _), (7, _), (9, _)]) rfl (by unfold within; decide +kernel) ?_⟩,
    ⟨hears_takes (by decide +kernel), fault_at (before := [(1, _)]) rfl (by decide +kernel) (and_before (by decide +kernel) none_before)⟩,
    ⟨hears_takes (by decide +kernel), fault_at (before := [(1, _), (2, _), (3, _), (5, _)]) rfl (by decide +kernel) ?_⟩,
    ⟨hears_takes (by decide +kernel), fault_at (before := [(1, _), (13, _), (15, _), (17, _)]) rfl (by decide +kernel) ?_⟩,
    ⟨hears_takes (by decide +kernel), fault_at (before := [(1, _), (13, _), (15, _), (17, _), (19, _)]) rfl (by unfold within; decide +kernel) ?_⟩,
    ⟨hears_takes (by decide +kernel), fault_at (before := [(1, _)]) rfl ?_ (and_before (by unfold within; decide +kernel) none_before)⟩⟩
  · refine and_before ?_ (and_before ?_ (and_before ?_ (and_before ?_ (and_before ?_ (and_before ?_ none_before)))))
    all_goals (try unfold within); decide +kernel
  · refine and_before ?_ (and_before ?_ (and_before ?_ (and_before ?_ none_before)))
    all_goals (try unfold within); decide +kernel
  · refine and_before (hid _) (and_before ?_ (and_before ?_ (and_before ?_ none_before)))
    all_goals (try unfold within); decide +kernel
  · refine and_before (hid _) (and_before ?_ (and_before ?_ (and_before ?_ (and_before ?_ none_before))))
    all_goals (try unfold within); decide +kernel
  · intro h
    have := h 0x61#8 (by decide +kernel)
    revert this; decide

theorem wit_RequestsUnheard :
    (telegramOf (.identify 1 [])).isSome = true ∧ State.reset.power ≠ .on
      ∧ 4 ≤ ({ up .run with link := { (up .run).link with replies := List.replicate 4 ⟨0x81, 1, .accepted⟩ } } : State).link.replies.length := by
  decide

theorem free_layout : layoutFree (up .setup) := ⟨rfl, fun b => by cases b <;> rfl⟩

theorem crane_items : craneItemsOk (craneBody 0) ∧ rowItemsOk (rowBody 0) ∧ bayItemsOk (bayBody 0) := by
  unfold craneItemsOk rowItemsOk bayItemsOk; decide +kernel

/-- Bodies of LAYOUT_RUNWAY and LAYOUT_INTAKE with items at ends of their ranges. -/
def runwayBody : List Byte := u16 2000 ++ u16 4000 ++ u16 0 ++ u16 10 ++ u16 500
def intakeBody : List Byte := u16 65000 ++ u16 4000 ++ u16 0

theorem part_items : runwayItemsOk runwayBody ∧ intakeItemsOk intakeBody := by unfold runwayItemsOk intakeItemsOk; decide +kernel

theorem wit_LayoutPartsEdited :
    ((up .setup).takes (.layoutBegin 1 (bytes [0])) ∧ (up .setup).takes (.layoutBegin 1 (bytes [1]))
        ∧ (up .setup).takes (.layoutBegin 1 (bytes [2])))
      ∧ ((up .setup).takes (.layoutRunway 1 runwayBody) ∧ runwayItemsOk runwayBody)
      ∧ ((up .setup).takes (.layoutIntake 1 intakeBody) ∧ intakeItemsOk intakeBody)
      ∧ ((up .setup).takes (.layoutCrane 1 (craneBody 0)) ∧ u8At (craneBody 0) 1 = craneNum .c1 ∧ craneItemsOk (craneBody 0))
      ∧ ((up .setup).takes (.layoutCrane 1 (craneBody 1)) ∧ u8At (craneBody 1) 2 = 1)
      ∧ ((up .setup).takes (.layoutRow 1 (rowBody 0)) ∧ u8At (rowBody 0) 1 = 40 ∧ rowItemsOk (rowBody 0))
      ∧ (up .setup).takes (.layoutRow 1 (rowBody 1))
      ∧ ((up .setup).takes (.layoutBay 1 (bayBody 0)) ∧ u8At (bayBody 0) 1 = bayNum .b2 ∧ bayItemsOk (bayBody 0))
      ∧ (up .setup).takes (.layoutBay 1 (bayBody 1)) ∧ (up .setup).layout.working = some layoutA ∧ layoutFree (up .setup) :=
  ⟨⟨hears_takes (by decide +kernel), hears_takes (by decide +kernel), hears_takes (by decide +kernel)⟩,
    ⟨hears_takes (by decide +kernel), part_items.1⟩, ⟨hears_takes (by decide +kernel), part_items.2⟩,
    ⟨hears_takes (by decide +kernel), by decide +kernel, crane_items.1⟩, ⟨hears_takes (by decide +kernel), by decide +kernel⟩,
    ⟨hears_takes (by decide +kernel), by decide +kernel, crane_items.2.1⟩, hears_takes (by decide +kernel),
    ⟨hears_takes (by decide +kernel), by decide +kernel, crane_items.2.2⟩, hears_takes (by decide +kernel), rfl, free_layout⟩

/-- A tuning body. -/
def tuningBody : List Byte := u16 0 ++ u16 199 ++ bytes [17] ++ u16 10 ++ bytes [2] ++ u16 2000 ++ u16 600 ++ bytes [21]

theorem locked_layout : ¬ layoutFree (withCoil (up .setup) 1 3) := fun h => by simp [withCoil, Table.put, up, layoutFree] at h

theorem wit_LayoutTunedOrLocked :
    ((up .setup).takes (.layoutTuning 1 tuningBody) ∧ (up .setup).layout.working = some layoutA ∧ layoutFree (up .setup))
      ∧ (withCoil (up .setup) 1 3).takes (.layoutTuning 1 tuningBody)
      ∧ ((withCoil (up .setup) 1 3).takes (.layoutRunway 1 runwayBody) ∧ runwayItemsOk runwayBody)
      ∧ ((withCoil (up .setup) 1 3).takes (.layoutIntake 1 intakeBody) ∧ intakeItemsOk intakeBody)
      ∧ ((withCoil (up .setup) 1 3).takes (.layoutCrane 1 (craneBody 0)) ∧ actionOk (craneBody 0) (craneItemsOk (craneBody 0)))
      ∧ ((withCoil (up .setup) 1 3).takes (.layoutRow 1 (rowBody 1)) ∧ actionOk (rowBody 1) (rowItemsOk (rowBody 1)))
      ∧ ((withCoil (up .setup) 1 3).takes (.layoutBay 1 (bayBody 0)) ∧ actionOk (bayBody 0) (bayItemsOk (bayBody 0)))
      ∧ ¬ layoutFree (withCoil (up .setup) 1 3) :=
  ⟨⟨hears_takes (by decide +kernel), rfl, free_layout⟩, hears_takes (by decide +kernel), ⟨hears_takes (by decide +kernel), part_items.1⟩,
    ⟨hears_takes (by decide +kernel), part_items.2⟩, ⟨hears_takes (by decide +kernel), .inr ⟨by decide +kernel, crane_items.1⟩⟩,
    ⟨hears_takes (by decide +kernel), .inl (by decide +kernel)⟩,
    ⟨hears_takes (by decide +kernel), .inr ⟨by decide +kernel, crane_items.2.2⟩⟩, locked_layout⟩

/-- SETUP with an empty working image. -/
def emptyWorking : State := { up .setup with layout := { (up .setup).layout with working := some {} } }

/-- A bay in use by a ZERO session. -/
def zeroing : State := withBaySession (up .setup) .b1 (some { kind := .zero, started := 0 })

/-- An unfinished move in SETUP. -/
def setupMove : State :=
  { up .setup with moves := { table := [(0, { number := 5, kind := .shift, origin := .link, coil := none, source := none, dest := .runway 800, priority := 5, created := 0 })] } }

theorem wit_LayoutCommitChecked :
    ((withCoil (up .setup) 1 3).takes (.layoutCommit 1 []) ∧ ¬ layoutFree (withCoil (up .setup) 1 3))
      ∧ (setupMove.takes (.layoutCommit 1 []) ∧ layoutFree setupMove ∧ setupMove.moves.table ≠ [])
      ∧ (zeroing.takes (.layoutCommit 1 []) ∧ layoutFree zeroing ∧ zeroing.moves.table = []
        ∧ ∃ b, (zeroing.weighing.bays.get b).session ≠ none)
      ∧ ((up .setup).takes (.layoutCommit 1 []) ∧ layoutA.rowsOrdered ∧ layoutFree (up .setup) ∧ (up .setup).moves.table = []
        ∧ (∀ b, ((up .setup).weighing.bays.get b).session = none) ∧ layoutA.commitFault = none)
      ∧ emptyWorking.takes (.layoutCommit 1 []) ∧ emptyWorking.layout.working = some {} ∧ ({} : Image).failsCheck 1
        ∧ ∀ j < 1, ¬ ({} : Image).failsCheck j := by
  refine ⟨⟨hears_takes (by decide +kernel), locked_layout⟩,
    ⟨hears_takes (by decide +kernel), ⟨rfl, fun b => by cases b <;> rfl⟩, by decide +kernel⟩,
    ⟨hears_takes (by decide +kernel), ⟨rfl, fun b => by cases b <;> rfl⟩, rfl, .b1, by decide +kernel⟩,
    ⟨hears_takes (by decide +kernel), ⟨rfl, by decide +kernel⟩, free_layout, rfl, fun b => by cases b <;> rfl, by decide +kernel⟩, hears_takes (by decide +kernel), rfl,
    .inl ⟨rfl, rfl⟩, ?_⟩
  intro j hj h
  obtain rfl : j = 0 := by omega
  unfold Image.failsCheck at h
  rcases h with h | h | ⟨h, -⟩ | h | h | ⟨i, h, -⟩ | ⟨b, e, h, -⟩ | ⟨h, -⟩ | ⟨n, e, h, -⟩
  · simp at h
  · simp at h
  · simp at h
  · simp at h
  · simp at h
  · simp at h
  · cases b <;> simp [PerBay.all, PerBay.get] at h
  · simp at h
  · simp [Table.get?] at h

theorem quiet_up (m : Mode) : (up m).quiet := ⟨⟨rfl, fun b => by cases b <;> rfl⟩, fun c => by cases c <;> rfl, rfl⟩

/-- A move of no coil in a state, on crane 1. -/
def shiftMove (st : MoveState) : Move :=
  { number := 5, kind := .shift, origin := .link, coil := none, source := none, dest := .runway 800, priority := 5, state := st
    phase := some .travelDest, crane := some .c1, created := 0 }

/-- A state with that one move. -/
def withMove (s : State) (m : Move) : State := { s with moves := { table := [(0, m)], last := m.number, queue := [] } }

theorem wit_ModesEntered :
    ((up .setup).takes (.runStart 1 []) ∧ (up .setup).layout.valid = true ∧ (up .setup).quiet)
      ∧ (({ up .setup with layout := {} } : State).takes (.runStart 1 []) ∧ ({ up .setup with layout := {} } : State).layout.valid = false)
      ∧ ((withMove (up .run) (shiftMove .active)).takes (.quiesce 1 [])
        ∧ ∃ m ∈ (withMove (up .run) (shiftMove .active)).moves.table.vals, m.state = .active)
      ∧ ((withMove (up .run) (shiftMove .held)).takes (.quiesce 1 [])
        ∧ (∀ m ∈ (withMove (up .run) (shiftMove .held)).moves.table.vals, m.state ≠ .active)
        ∧ ∃ m ∈ (withMove (up .run) (shiftMove .held)).moves.table.vals, m.state = .held)
      ∧ ((up .run).takes (.quiesce 1 []) ∧ ∀ m ∈ (up .run).moves.table.vals, m.state ≠ .active ∧ m.state ≠ .held)
      ∧ (({ up .quiesced with cranes := (up .run).cranes.set .c2 { service := .yielding } } : State).takes (.enterSetup 1 [])
        ∧ craneNum .c1 < craneNum .c2)
      ∧ (up .quiesced).takes (.enterSetup 1 []) ∧ ∀ c, ((up .quiesced).cranes.get c).service ≠ .yielding :=
  ⟨⟨hears_takes (by decide +kernel), rfl, quiet_up _⟩, ⟨hears_takes (by decide +kernel), rfl⟩,
    ⟨hears_takes (by decide +kernel), by decide +kernel⟩, ⟨hears_takes (by decide +kernel), by decide +kernel, by decide +kernel⟩,
    ⟨hears_takes (by decide +kernel), by decide +kernel⟩, ⟨hears_takes (by decide +kernel), by decide +kernel⟩, hears_takes (by decide +kernel),
    fun c => by cases c <;> decide⟩

theorem order_none {c : CraneId} {s : State} (h : (s.cranes.get c).order = none) :
    ∀ o, (s.cranes.get c).order = some o → o.kind ≠ .abortLower := by
  intro o ho; rw [h] at ho; cases ho

/-- Bay 1 secured with a LOADING visit, bay 2 with an UNLOADING one whose cradle 1 is empty again; coil 1 in bottom slot 3, coil 2 on a saddle, coils 3
and 4 with the visits. -/
def restarting : State :=
  { twoCranes with
    coils := [(1, coilAt 1 (.slot (bot 3))), (2, coilAt 2 (.saddle .ia)), (3, { coilAt 3 (.slot (bot 6)) with visit := some .b1, active := some 5 }),
      (4, { coilAt 4 (.slot (bot 9)) with visit := some .b2 }), (5, { coilAt 5 (.cradle .b2 2) with visit := some .b2 })]
    bays :=
      ⟨{ inPosition := true, safe := true, lock := some 5, waiting := [6]
         visit := some { visitA .loading with
           cradles := [{ d := 610, maxWeight := 30000, maxOd := 2000, state := .reserved 5 }]
           plan := [{ coil := idOf 3, cradle := 1, move := 5, state := .moving }] } },
       { inPosition := true, safe := false
         visit := some { visitA .unloading with
           cradles := [{ d := 610, maxWeight := 30000, maxOd := 2000, state := .free },
             { d := 700, maxWeight := 30000, maxOd := 2000, state := .loaded (idOf 5) (some 7) }]
           plan := [{ coil := idOf 4, cradle := 1, move := 3, state := .onTruck }, { coil := idOf 5, cradle := 2, move := 4, state := .onTruck }] } }⟩ }

theorem wit_RestartTakesRestartValues :
    (twoCranes.takes (.restart 1 []) ∧ (twoCranes.cranes.get .c1).timer = true
        ∧ ∀ o, (twoCranes.cranes.get .c1).order = some o → o.kind ≠ .abortLower)
      ∧ restarting.takes (.restart 1 [])
      ∧ ((restarting.bays.get .b1).visit.map (visitAfterRestart (restarting.bays.get .b1)) = some (some .verifying)
        ∧ (restarting.bays.get .b1).visit.map (sessionAfterRestart (restarting.bays.get .b1)) = some (some .gross)
        ∧ (restarting.bays.get .b2).visit.map (visitAfterRestart (restarting.bays.get .b2)) = some (some .discrepancy)
        ∧ ((withTruck (up .run) .departing).bays.get .b1).visit.map (visitAfterRestart ((withTruck (up .run) .departing).bays.get .b1)) = some none)
      ∧ (∀ v, (restarting.bays.get .b1).visit = some v → ∃ e ∈ v.plan, e.coil = idOf 3 ∧ entryEnds v e)
      ∧ (∀ v, (restarting.bays.get .b2).visit = some v → ∃ e ∈ v.plan, e.coil = idOf 4 ∧ entryEnds v e)
      ∧ restarting.layout.committed.slotExists (bot 3) = true := by
  refine ⟨⟨hears_takes (by decide +kernel), rfl, order_none rfl⟩, hears_takes (by decide +kernel), by decide +kernel, ?_, ?_, by decide +kernel⟩
  · rintro v ⟨⟩
    exact ⟨_, .head _, rfl, .inl ⟨.inl rfl, .inr rfl⟩⟩
  · rintro v ⟨⟩
    refine ⟨_, .head _, rfl, .inr ⟨rfl, rfl, ?_⟩⟩
    rintro k id p ⟨⟩ ⟨⟩

theorem wit_AutoSearchLeastCost :
    (up .run).layout.committed.rowsOrdered ∧ (up .run).autoSlot ⟨10000, 1500, 1200, false⟩ (1500, 600) = some (bot 2) :=
  ⟨⟨rfl, by decide +kernel⟩, by decide +kernel⟩

/-- The body that enters coil 1 at a PLACE. -/
def coilBody (tail : List Byte) : List Byte := idOf 1 ++ u16 10000 ++ u16 1500 ++ u16 1200 ++ u16 4320 ++ tail

theorem ids_ok (n : Nat) (h : n ≤ 9) : millIdOk (idOf n) := by
  have : ∀ k, k ≤ 9 → (idOf k).all (fun x => decide (0x30 ≤ x.toNat ∧ x.toNat ≤ 0x39)) = true := by decide +kernel
  intro x hx
  have hd := List.all_eq_true.mp (this n h) x hx
  exact .inl (by simpa using hd)

theorem coil_fields (tail : List Byte) (h : tail = bytes [7, 0, 9] ∨ tail = bytes [1, 255]) : coilFieldsOk (coilBody tail) := by
  have hid : fieldBytes (coilBody tail) 1 12 = idOf 1 := rfl
  refine ⟨hid ▸ ids_ok 1 (by decide +kernel), ?_⟩
  rcases h with rfl | rfl <;> decide +kernel

theorem bounded_up (m : Mode) : (up m).bounded := by simp [State.bounded, up, Table.wf]

/-- Coil 1 under coil 3: coils 1 and 2 in bottom slots 3 and 4 of row 7, coil 3 over them. -/
def stacked (s : State) : State :=
  { s with
    coils := [(0, coilAt 1 (.slot (bot 3))), (1, coilAt 2 (.slot (bot 4))), (2, coilAt 3 (.slot ⟨7, .top, 3⟩))]
    yard := { slots := [((bot 3).key, ⟨bot 3, .occupied (idOf 1)⟩), ((bot 4).key, ⟨bot 4, .occupied (idOf 2)⟩),
      ((⟨7, .top, 3⟩ : SlotAddr).key, ⟨⟨7, .top, 3⟩, .occupied (idOf 3)⟩)] } }

theorem wit_CoilsRegisteredAndRemoved :
    ((up .setup).takes (.coilRegister 1 (coilBody (bytes [7, 0, 9]))) ∧ (up .setup).bounded ∧ coilFieldsOk (coilBody (bytes [7, 0, 9]))
        ∧ carriesSlot (coilBody (bytes [7, 0, 9])) 21 (bot 9) ∧ (up .setup).coils = [] ∧ lowestEmpty (up .setup).coils 0
        ∧ (up .setup).isCandidate ⟨10000, 1500, 1200, true⟩ (bot 9) = true)
      ∧ ((up .setup).takes (.coilRemove 1 (idOf 1)) ∧ millIdOk (idOf 1) ∧ (up .setup).findCoil (idOf 1) = none)
      ∧ (({ up .setup with coils := [(1, coilAt 1 (.hook .c2))] } : State).takes (.coilRemove 1 (idOf 1)))
      ∧ ((stacked (up .setup)).takes (.coilRemove 1 (idOf 1)) ∧ (stacked (up .setup)).findCoil (idOf 1) = some (coilAt 1 (.slot (bot 3)))
        ∧ (stacked (up .setup)).covered (bot 3) = true)
      ∧ (withCoil (up .setup) 1 9).takes (.coilRemove 1 (idOf 1)) ∧ (withCoil (up .setup) 1 9).findCoil (idOf 1) = some (coilAt 1 (.slot (bot 9)))
        ∧ (withCoil (up .setup) 1 9).covered (bot 9) = false ∧ (withCoil (up .setup) 1 9).slot (bot 9) = some (.occupied (idOf 1)) :=
  ⟨⟨hears_takes (by decide +kernel), bounded_up _, coil_fields _ (.inl rfl), by unfold carriesSlot; decide, rfl, ⟨rfl, nofun⟩, by decide +kernel⟩,
    ⟨hears_takes (by decide +kernel), ids_ok 1 (by decide +kernel), rfl⟩, hears_takes (by decide +kernel),
    ⟨hears_takes (by decide +kernel), by decide +kernel, by decide +kernel⟩,
    hears_takes (by decide +kernel), by decide +kernel, by decide +kernel, by decide +kernel⟩

/-- Nothing stands against a new move in a fresh state. -/
theorem next_up (m : Mode) : nextMove (up m) 1 0 := by simp [nextMove, up, Table.vals, lowestEmpty, Table.get?]

theorem craneless_up (m : Mode) : (up m).craneless := by
  refine ⟨⟨rfl, fun b => by cases b <;> rfl⟩, fun c => by cases c <;> rfl, ?_⟩
  simp [up, Table.vals]

theorem wit_CoilAnnounced :
    (up .run).takes (.coilAnnounce 1 (coilBody (bytes [1, 255]))) ∧ (up .run).bounded ∧ coilFieldsOk (coilBody (bytes [1, 255]))
      ∧ u8At (coilBody (bytes [1, 255])) 21 = saddleNum .ia ∧ carriesPriority (coilBody (bytes [1, 255])) 22 5
      ∧ (up .run).coils = [] ∧ (up .run).yard.onSaddle .ia = none ∧ lowestEmpty (up .run).coils 0 ∧ nextMove (up .run) 1 0
      ∧ (up .run).layout.committed.saddlePos .ia = some (1500, 600)
      ∧ (up .run).autoSlot ⟨10000, 1500, 1200, true⟩ (1500, 600) = some (bot 2) ∧ (up .run).craneless :=
  ⟨hears_takes (by decide +kernel), bounded_up _, coil_fields _ (.inr rfl), by decide +kernel, .inr (by decide +kernel), rfl, rfl, ⟨rfl, by decide⟩, next_up _, by decide +kernel,
    by decide +kernel, craneless_up _⟩

/-- The body of a RELOCATE or PUT_DOWN of coil 1 to bottom slot 12 of row 7 or to bottom slot 5. -/
def moveBody (kind pos : Nat) : List Byte := bytes [kind] ++ idOf 1 ++ bytes [0, 1, 7, 0, pos, 255]

/-- One coil in bottom slot 3 of row 7. -/
def oneCoil : State := withCoil (up .run) 1 3

theorem oneCoil_bounded : oneCoil.bounded := by
  simp [State.bounded, oneCoil, withCoil, up, Table.wf, Table.put]

theorem oneCoil_next : nextMove oneCoil 1 0 := by
  simp [nextMove, oneCoil, withCoil, up, Table.vals, lowestEmpty, Table.get?]

theorem oneCoil_craneless : oneCoil.craneless := by
  refine ⟨⟨rfl, fun b => by cases b <;> rfl⟩, fun c => by cases c <;> rfl, ?_⟩
  simp [oneCoil, withCoil, up, Table.vals]

/-- The body of a RELOCATE of coil 1 to top slot 8 of row 7, and of one with an AUTO destination in rows `lo` to `hi`. -/
def topBody : List Byte := bytes [0] ++ idOf 1 ++ bytes [0, 1, 7, 1, 8, 7]
def autoBody (kind lo hi : Nat) : List Byte := bytes [kind] ++ idOf 1 ++ bytes [0, 6, lo, hi, 0, 255]

/-- Coil 1 in bottom slot 3 and coils 8 and 9 in bottom slots 8 and 9. -/
def spreadOut : State :=
  { oneCoil with
    coils := [(1, coilAt 1 (.slot (bot 3))), (8, coilAt 8 (.slot (bot 8))), (9, coilAt 9 (.slot (bot 9)))]
    yard := { slots := [((bot 3).key, ⟨bot 3, .occupied (idOf 1)⟩), ((bot 8).key, ⟨bot 8, .occupied (idOf 8)⟩),
      ((bot 9).key, ⟨bot 9, .occupied (idOf 9)⟩)] } }

/-- The slots that the moves of `stacked` reserve. -/
def dugOut (s : State) : State :=
  withSlot (withSlot s ⟨7, .top, 3⟩ (.reservedOut 1 (idOf 3))) (bot 3) (.reservedOut 2 (idOf 1))

theorem wit_RelocateRequested :
    (oneCoil.takes (.moveRequest 1 (moveBody 0 9)) ∧ oneCoil.bounded ∧ u8At (moveBody 0 9) 1 = 0 ∧ millIdOk (fieldBytes (moveBody 0 9) 2 12)
        ∧ carriesPriority (moveBody 0 9) 19 5 ∧ movable oneCoil (coilAt 1 (.slot (bot 3))) (bot 3)
        ∧ (∀ c ∈ coveringSlots oneCoil.layout.committed (bot 3), oneCoil.slot c = none) ∧ nextMove oneCoil 1 0
        ∧ chosenSlot (withSlot oneCoil (bot 3) (.reservedOut 1 (idOf 1))) (coilAt 1 (.slot (bot 3))).load (some (8400, 770)) (moveBody 0 9) 15 (bot 9)
        ∧ oneCoil.craneless)
      ∧ (spreadOut.takes (.moveRequest 1 topBody) ∧ carriesPriority topBody 19 7
        ∧ chosenSlot (withSlot spreadOut (bot 3) (.reservedOut 1 (idOf 1))) (coilAt 1 (.slot (bot 3))).load (some (8400, 770)) topBody 15 ⟨7, .top, 8⟩)
      ∧ (oneCoil.takes (.moveRequest 1 (autoBody 0 0 0)) ∧ oneCoil.layout.committed.slotPos (bot 3) = some (8400, 770)
        ∧ chosenSlot (withSlot oneCoil (bot 3) (.reservedOut 1 (idOf 1))) (coilAt 1 (.slot (bot 3))).load (some (8400, 770)) (autoBody 0 0 0) 15 (bot 2))
      ∧ (asksAuto (autoBody 0 9 40) 15 { range := some (9, 40) }
        ∧ (withSlot oneCoil (bot 3) (.reservedOut 1 (idOf 1))).autoSlot (coilAt 1 (.slot (bot 3))).load (8400, 770) { range := some (9, 40) } = none) := by
  have hm : movable oneCoil (coilAt 1 (.slot (bot 3))) (bot 3) := by unfold movable; decide +kernel
  exact ⟨⟨hears_takes (by decide +kernel), oneCoil_bounded, by decide +kernel, ids_ok 1 (by decide), .inr (by decide +kernel), hm, by decide +kernel,
      oneCoil_next, .inl ⟨by decide +kernel, by unfold carriesSlot; decide +kernel, by decide +kernel⟩, oneCoil_craneless⟩,
    ⟨hears_takes (by decide +kernel), .inl (by decide +kernel),
      .inl ⟨by decide +kernel, by unfold carriesSlot; decide +kernel, by decide +kernel⟩⟩,
    ⟨hears_takes (by decide +kernel), by decide +kernel,
      .inr ⟨{}, (8400, 770), ⟨by decide +kernel, rfl, rfl, .inl ⟨by decide +kernel, by decide +kernel, rfl⟩⟩, rfl, by decide +kernel⟩⟩,
    ⟨by decide +kernel, rfl, rfl, .inr ⟨by decide +kernel, by decide +kernel⟩⟩, by decide +kernel⟩

theorem stacked_craneless : (stacked (up .run)).craneless := by
  refine ⟨⟨rfl, fun b => by cases b <;> rfl⟩, fun c => by cases c <;> rfl, ?_⟩
  show ∀ m ∈ ([] : List Move), m.state ≠ .active
  simp

theorem stacked_bounded : (stacked (up .run)).bounded := by
  exact ⟨⟨by decide +kernel, by decide +kernel⟩, ⟨by decide +kernel, by decide +kernel⟩, by decide +kernel, by decide +kernel⟩

theorem wit_RelocateRequested_digout :
      (stacked (up .run)).takes (.moveRequest 1 (moveBody 0 9)) ∧ (stacked (up .run)).bounded
        ∧ movable (stacked (up .run)) (coilAt 1 (.slot (bot 3))) (bot 3)
        ∧ ⟨7, .top, 3⟩ ∈ coveringSlots (stacked (up .run)).layout.committed (bot 3)
        ∧ (∀ c ∈ coveringSlots (stacked (up .run)).layout.committed (bot 3), c ≠ ⟨7, .top, 3⟩ → (stacked (up .run)).slot c = none)
        ∧ (stacked (up .run)).findCoil (idOf 3) = some (coilAt 3 (.slot ⟨7, .top, 3⟩))
        ∧ (stacked (up .run)).layout.committed.slotPos ⟨7, .top, 3⟩ = some (8400, 875)
        ∧ (dugOut (stacked (up .run))).autoSlot (coilAt 3 (.slot ⟨7, .top, 3⟩)).load (8400, 875)
            { leaveOut := coveringSlots layoutA (bot 3) } = some (bot 2)
        ∧ chosenSlot (withSlot (dugOut (stacked (up .run))) (bot 2) (.reservedIn 1)) (coilAt 1 (.slot (bot 3))).load (some (8400, 770)) (moveBody 0 9) 15 (bot 9)
        ∧ (stacked (up .run)).craneless := by
  have hn : movable (stacked (up .run)) (coilAt 1 (.slot (bot 3))) (bot 3) := by unfold movable; decide +kernel
  have hc : carriesSlot (moveBody 0 9) 16 (bot 9) := by unfold carriesSlot; decide +kernel
  refine ⟨hears_takes ?_, stacked_bounded, hn, ?_, ?_, ?_, ?_, ?_, .inl ⟨?_, hc, ?_⟩, stacked_craneless⟩ <;> decide +kernel

/-- A coil on the hook of crane 2. -/
def onHook : State := { up .run with coils := [(1, coilAt 1 (.hook .c2))] }

theorem wit_ShiftAndPutDownRequested :
    ((up .run).takes (.moveRequest 1 (bytes (2 :: List.replicate 12 0 ++ [4, 5, 0, 0x5D, 0xC0, 7])))
        ∧ (up .run).bounded ∧ u16At (bytes (2 :: List.replicate 12 0 ++ [4, 5, 0, 0x5D, 0xC0, 7])) 17 = 24000
        ∧ carriesPriority (bytes (2 :: List.replicate 12 0 ++ [4, 5, 0, 0x5D, 0xC0, 7])) 19 7
        ∧ (up .run).runwayLength = 24000 ∧ nextMove (up .run) 1 0 ∧ (up .run).craneless)
      ∧ onHook.takes (.moveRequest 1 (moveBody 1 1)) ∧ onHook.bounded ∧ millIdOk (fieldBytes (moveBody 1 1) 2 12)
        ∧ onHook.findCoil (fieldBytes (moveBody 1 1) 2 12) = some (coilAt 1 (.hook .c2))
        ∧ chosenSlot onHook (coilAt 1 (.hook .c2)).load (some (onHook.craneX .c2, onHook.craneY .c2)) (moveBody 1 1) 15 (bot 1)
        ∧ asksAuto (autoBody 1 7 40) 15 { range := some (7, 40) } ∧ onHook.takes (.moveRequest 1 (autoBody 1 7 40))
        ∧ asksAuto (autoBody 1 40 40) 15 { range := some (40, 40) }
        ∧ onHook.autoSlot (coilAt 1 (.hook .c2)).load (onHook.craneX .c2, onHook.craneY .c2) { range := some (40, 40) } = none
        ∧ nextMove onHook 1 0 ∧ onHook.craneless := by
  refine ⟨⟨hears_takes (by decide +kernel), bounded_up _, by decide +kernel, .inl (by decide +kernel), by decide +kernel, next_up _,
    craneless_up _⟩, hears_takes (by decide +kernel), ?_, ids_ok 1 (by decide), by decide +kernel,
    .inl ⟨by decide +kernel, by unfold carriesSlot; decide +kernel, by decide +kernel⟩,
    ⟨by decide +kernel, rfl, rfl, .inr ⟨by decide +kernel, by decide +kernel⟩⟩, hears_takes (by decide +kernel),
    ⟨by decide +kernel, rfl, rfl, .inr ⟨by decide +kernel, by decide +kernel⟩⟩, ?_, ?_,
    ⟨rfl, fun b => by cases b <;> rfl⟩, fun c => by cases c <;> rfl, ?_⟩
  · simp [State.bounded, onHook, up, Table.wf]
  · simp only [onHook, up]; rfl
  · simp [nextMove, onHook, up, Table.vals, lowestEmpty, Table.get?]
  · simp [onHook, up, Table.vals]

/-- One move of crane 1 in a state, and nothing else to start. -/
def moving (m : Move) : State :=
  { withMove (up .run) m with cranes := (up .run).cranes.set .c1 { inAt 700 300 with current := some m.number } }

theorem quiet_moving (m : Move) : (moving m).quiet :=
  ⟨⟨rfl, fun b => by cases b <;> rfl⟩, fun c => by cases c <;> rfl, rfl⟩

/-- A HELD move that keeps LOWER_SET at bottom slot 5. -/
def loweringMove (cs : Causes) : Move :=
  { number := 5, kind := .store, origin := .link, coil := some (idOf 1), source := some (.saddle .ia), dest := .slot (bot 5), priority := 5
    state := .held, phase := some .lowerSet, crane := some .c1, causes := cs, created := 0 }

/-- The same with crane 1 OUT. -/
def movingOut (m : Move) : State := { moving m with cranes := (up .run).cranes.set .c1 { inAt 700 300 with service := .out } }

/-- An ACTIVE move in LOWER_SET, resumed while the ABORT_LOWER of its hold, or of a line drop, is outstanding. -/
def resumedInAbort (drop : Bool) : State :=
  { moving { loweringMove {} with state := .active } with
    cranes := (up .run).cranes.set .c1 { inAt 700 300 with
      current := some 5, counter := 22, order := some { num := 22, kind := .abortLower, use := .halt, tongs := some .gripped, lineDrop := drop } } }

theorem wit_MovesHeldAndResumed_abort (drop : Bool) :
    (resumedInAbort drop).takes (.moveHold 1 (bytes [0, 5])) ∧ (resumedInAbort drop).quiet
      ∧ (resumedInAbort drop).findMove 5 = some { loweringMove {} with state := .active }
      ∧ ((resumedInAbort drop).cranes.get .c1).order
          = some { num := 22, kind := .abortLower, use := .halt, tongs := some .gripped, lineDrop := drop } := by
  refine ⟨?_, ⟨⟨rfl, fun b => by cases b <;> rfl⟩, fun c => by cases c <;> rfl, rfl⟩, rfl, rfl⟩
  cases drop <;> exact hears_takes (by decide +kernel)

/-- R84: a hold in LOWER_SET while the ABORT_LOWER of an earlier hold is outstanding sends a second one, which returns to the same hook state; R142: while
that of a line drop is outstanding, nothing is sent. -/
theorem test_second_abort :
    (match exec (.moveHold 1 (bytes [0, 5])) (resumedInAbort false) with
      | .next t => decide (t.sent = [⟨.c1, 23, .abortLower, 0, 0⟩]
          ∧ ((t.cranes.get .c1).order.map fun o => (o.num, o.tongs)) = some (23, some .gripped))
      | _ => false) = true
    ∧ (match exec (.moveHold 1 (bytes [0, 5])) (resumedInAbort true) with
      | .next t => decide (t.sent = [] ∧ (t.findMove 5).map (·.phase) = some (some .bayWait))
      | _ => false) = true := by decide +kernel

theorem wit_MovesHeldAndResumed :
    (((up .run).takes (.moveHold 1 (bytes [0, 5])) ∧ (up .run).findMove 5 = none)
      ∧ ((moving (shiftMove .held)).takes (.moveHold 1 (bytes [0, 5])) ∧ (moving (shiftMove .held)).findMove 5 = some (shiftMove .held))
      ∧ ((moving (shiftMove .parked)).takes (.moveHold 1 (bytes [0, 5])) ∧ (moving (shiftMove .parked)).findMove 5 = some (shiftMove .parked))
      ∧ (moving (shiftMove .active)).takes (.moveHold 1 (bytes [0, 5]))
        ∧ (moving (shiftMove .active)).findMove 5 = some (shiftMove .active) ∧ (moving (shiftMove .active)).quiet
        ∧ ∀ o, ((moving (shiftMove .active)).cranes.get .c1).order = some o → o.kind ≠ .abortLower)
      ∧ ((moving (loweringMove { link := true, crane := true })).takes (.moveResume 1 (bytes [0, 5]))
        ∧ (moving (loweringMove { link := true, crane := true })).findMove 5 = some (loweringMove { link := true, crane := true }))
      ∧ ((movingOut (loweringMove { link := true })).takes (.moveResume 1 (bytes [0, 5]))
        ∧ (movingOut (loweringMove { link := true })).findMove 5 = some (loweringMove { link := true })
        ∧ ((movingOut (loweringMove { link := true })).cranes.get .c1).service = .out)
      ∧ (moving (loweringMove { link := true })).takes (.moveResume 1 (bytes [0, 5]))
        ∧ (moving (loweringMove { link := true })).findMove 5 = some (loweringMove { link := true })
        ∧ ((moving (loweringMove { link := true })).cranes.get .c1).service ≠ .out
        ∧ ((moving (loweringMove { link := true })).cranes.get .c1).order = none :=
  ⟨⟨⟨hears_takes (by decide +kernel), rfl⟩, ⟨hears_takes (by decide +kernel), by decide +kernel⟩,
    ⟨hears_takes (by decide +kernel), by decide +kernel⟩, hears_takes (by decide +kernel), by decide +kernel, quiet_moving _, order_none rfl⟩,
    ⟨hears_takes (by decide +kernel), by decide +kernel⟩, ⟨hears_takes (by decide +kernel), by decide +kernel, by decide +kernel⟩,
    hears_takes (by decide +kernel), by decide +kernel, by decide +kernel, by decide +kernel⟩

/-- A QUEUED RELOCATE of coil 1 from bottom slot 3 to bottom slot 5. -/
def queuedMove : Move :=
  { number := 5, kind := .relocate, origin := .link, coil := some (idOf 1), source := some (.slot (bot 3)), dest := .slot (bot 5), priority := 5
    created := 0 }

def queued : State :=
  { up .run with
    coils := [(1, { coilAt 1 (.slot (bot 3)) with active := some 5 })]
    yard := { slots := [((bot 3).key, ⟨bot 3, .reservedOut 5 (idOf 1)⟩), ((bot 5).key, ⟨bot 5, .reservedIn 5⟩)] }
    moves := { table := [(0, queuedMove)], last := 5, queue := [5] } }

theorem queued_ungripped : ungripped queued queuedMove { coilAt 1 (.slot (bot 3)) with active := some 5 } (bot 3) (bot 5) :=
  ⟨rfl, rfl, rfl, by decide +kernel, nofun, rfl, by and_intros <;> decide +kernel⟩

/-- That move in another state on crane 1, whose record is as given. -/
def onCrane (m : Move) (r : CraneRec) : State :=
  { queued with cranes := queued.cranes.set .c1 r, moves := { table := [(0, m)], last := 5 } }

def moveIn (st : MoveState) (ph : Phase) : Move := { queuedMove with state := st, phase := some ph, crane := some .c1 }

theorem on_alone (st : MoveState) (ph : Phase) (r : CraneRec) : standsAlone (onCrane (moveIn st ph) r) 5 := by
  intro w hw
  obtain rfl : w = moveIn st ph := by simpa [onCrane, Table.vals] using hw
  exact ⟨nofun, nofun⟩

/-- A STOP that replaced a TRAVEL of the move. -/
def stopped : Order := { num := 5, kind := .stop, use := .halt, replaced := some ⟨4, .travel, .phase 5⟩ }

theorem stop_answered (m : Move) : answered (onCrane m { inAt 700 300 with current := some 5, order := some stopped }) .c1 5 := by
  rintro o r ⟨⟩ - - ⟨⟩ -
  exact ⟨nofun, nofun⟩

/-- The move waits in CLAIM_SRC. -/
def claiming : State :=
  { onCrane (moveIn .active .claimSrc) { inAt 700 300 with current := some 5 } with
    runway := { queued.runway with waits := queued.runway.waits.set .c1 (some ⟨5, 0, 9250, 11, 0, 1⟩) } }

/-- What the three states on a crane have in common. -/
def cancels (s : State) (m : Move) : Prop :=
  s.takes (.moveCancel 1 (bytes [0, 5])) ∧ s.findMove 5 = some m ∧ m.fault = none ∧ m.crane = some .c1 ∧ standsAlone s 5
    ∧ ungripped s m { coilAt 1 (.slot (bot 3)) with active := some 5 } (bot 3) (bot 5)

theorem on_cancels {st : MoveState} {ph : Phase} {r : CraneRec} (h : hears (onCrane (moveIn st ph) r) (.moveCancel 1 (bytes [0, 5])) = true) :
    cancels (onCrane (moveIn st ph) r) (moveIn st ph) :=
  ⟨hears_takes h, rfl, rfl, rfl, on_alone st ph r, queued_ungripped⟩

def parkedUnder : CraneRec := { inAt 700 300 with current := some 6, park := [4, 5] }
def sentAbort : CraneRec := { inAt 700 300 with current := some 5, order := some { num := 4, kind := .abortLower, use := .phase 5 } }
def sentStop : CraneRec := { inAt 700 300 with current := some 5, order := some stopped }

theorem wit_MovesCancelled :
    (queued.takes (.moveCancel 1 (bytes [0, 5])) ∧ queued.findMove 5 = some queuedMove ∧ standsAlone queued 5
        ∧ ungripped queued queuedMove { coilAt 1 (.slot (bot 3)) with active := some 5 } (bot 3) (bot 5))
      ∧ (cancels (onCrane (moveIn .parked .travelSrc) parkedUnder) (moveIn .parked .travelSrc)
        ∧ answered (onCrane (moveIn .parked .travelSrc) parkedUnder) .c1 5 ∧ parkedUnder.current = some 6
        ∧ ∀ d, (onCrane (moveIn .parked .travelSrc) parkedUnder).mayPop d = false)
      ∧ (claiming.takes (.moveCancel 1 (bytes [0, 5])) ∧ answered claiming .c1 5 ∧ standsAlone claiming 5
        ∧ ungripped claiming (moveIn .active .claimSrc) { coilAt 1 (.slot (bot 3)) with active := some 5 } (bot 3) (bot 5)
        ∧ (∀ d x, claiming.runway.waits.get d = some x → d = .c1 ∧ x.move = 5) ∧ (∀ b, (claiming.bays.get b).waiting = [])
        ∧ (∀ d, (claiming.cranes.get d).park = []) ∧ (claiming.cranes.get .c1).order = none)
      ∧ (cancels (onCrane (moveIn .active .lowerGrip) sentAbort) (moveIn .active .lowerGrip)
        ∧ answered (onCrane (moveIn .active .lowerGrip) sentAbort) .c1 5 ∧ sentAbort.order.map (·.kind) = some .abortLower)
      ∧ cancels (onCrane (moveIn .held .lowerGrip) sentStop) (moveIn .held .lowerGrip)
        ∧ answered (onCrane (moveIn .held .lowerGrip) sentStop) .c1 5 ∧ (onCrane (moveIn .held .lowerGrip) sentStop).quiet := by
  refine ⟨⟨hears_takes (by decide +kernel), by decide +kernel, ?_, queued_ungripped⟩, ⟨on_cancels (by decide +kernel), fun o r h => (by cases h), rfl,
      fun d => by cases d <;> rfl⟩,
    ⟨hears_takes (by decide +kernel), fun o r h => (by cases h), on_alone .active .claimSrc { inAt 700 300 with current := some 5 }, queued_ungripped, ?_,
      fun b => by cases b <;> rfl, fun d => by cases d <;> rfl, rfl⟩, ⟨on_cancels (by decide +kernel), ?_, rfl⟩, on_cancels (by decide +kernel), stop_answered _,
    ⟨rfl, fun b => by cases b <;> rfl⟩, fun c => by cases c <;> rfl, rfl⟩
  · exact fun w hw => by
      obtain rfl : w = queuedMove := by simpa [queued, Table.vals] using hw
      exact ⟨nofun, nofun⟩
  · intro d x h
    cases d <;> first | (obtain rfl := Option.some.inj h; exact ⟨rfl, rfl⟩) | cases h
  · rintro o r ⟨⟩ ⟨⟩

/-- A QUEUED RELOCATE of coil 1 out of bottom slot 3 to bottom slot 9, its QUEUED dig-out 5 of coil 3 to bottom slot 2 and its ACTIVE dig-out 7. -/
def mainMove : Move := { queuedMove with number := 6, dest := .slot (bot 9), waits := [5, 7] }
def digMove : Move :=
  { queuedMove with origin := .digout, coil := some (idOf 3), source := some (.slot ⟨7, .top, 3⟩), dest := .slot (bot 2), digFor := some 6 }
def digActive : Move := { digMove with number := 7, coil := none, source := none, state := .active, phase := some .hoist, crane := some .c2 }

def digging : State :=
  { up .run with
    coils := [(0, { coilAt 1 (.slot (bot 3)) with active := some 6 }), (2, { coilAt 3 (.slot ⟨7, .top, 3⟩) with active := some 5 })]
    yard := { slots := [((bot 2).key, ⟨bot 2, .reservedIn 5⟩), ((bot 3).key, ⟨bot 3, .reservedOut 6 (idOf 1)⟩), ((bot 9).key, ⟨bot 9, .reservedIn 6⟩),
      ((⟨7, .top, 3⟩ : SlotAddr).key, ⟨⟨7, .top, 3⟩, .reservedOut 5 (idOf 3)⟩)] }
    moves := { table := [(0, digMove), (1, mainMove), (2, digActive)], last := 7, queue := [5, 6] } }

theorem wit_MovesCancelled_digouts :
    digging.takes (.moveCancel 1 (bytes [0, 6])) ∧ digging.findMove 6 = some mainMove
      ∧ ungripped digging mainMove { coilAt 1 (.slot (bot 3)) with active := some 6 } (bot 3) (bot 9)
      ∧ ungripped digging digMove { coilAt 3 (.slot ⟨7, .top, 3⟩) with active := some 5 } ⟨7, .top, 3⟩ (bot 2)
      ∧ (∀ w ∈ digging.moves.table.vals, 6 ∉ w.waits) ∧ (digging.moves.table.vals.map (·.number)).Nodup
      ∧ (∀ d, d ∈ [digMove] ↔ d ∈ digging.moves.table.vals ∧ d.digFor = some 6 ∧ d.state = .queued)
      ∧ ∀ w ∈ digging.moves.table.vals, (5 ∈ w.waits → w.number = 6) ∧ w.digFor ≠ some 5 := by
  refine ⟨hears_takes (by decide +kernel), rfl, ⟨rfl, rfl, rfl, by decide +kernel, nofun, rfl, by and_intros <;> decide +kernel⟩,
    ⟨rfl, rfl, rfl, by decide +kernel, nofun, rfl, by and_intros <;> decide +kernel⟩, by decide +kernel, by decide +kernel, fun d => ?_, by decide +kernel⟩
  constructor
  · intro h
    obtain rfl : d = digMove := by simpa using h
    exact ⟨.head _, rfl, rfl⟩
  · rintro ⟨h, hd, hs⟩
    have h3 : d = digMove ∨ d = mainMove ∨ d = digActive := by simpa [digging, Table.vals] using h
    rcases h3 with rfl | rfl | rfl
    · exact .head _
    · cases hd
    · cases hs

/-- R147: the ACTIVE dig-out goes on, and no later move of number 6 is its main move. -/
theorem test_digout_goes_on :
    (match exec (.moveCancel 1 (bytes [0, 6])) digging with
      | .next t => decide (t.findMove 7 = some { digActive with digFor := none })
      | _ => false) = true := by decide +kernel

/-- R207, R208: the hold causes LINK and RUNWAY in a MOVES record. -/
theorem test_causes_bytes : causesBytes { link := true, runway := true } = bytes [2, 0, 2] := by decide

/-- A HELD STORE move with its coil on the hook of crane 1, bound for bottom slot 5. -/
def carrying : State :=
  { moving (loweringMove { link := true }) with
    coils := [(1, { coilAt 1 (.hook .c1) with active := some 5 })]
    yard := { slots := [((bot 5).key, ⟨bot 5, .reservedIn 5⟩)] } }

theorem wit_MoveRedirected :
    carrying.takes (.moveRedirect 1 (bytes [0, 5, 1, 7, 0, 9])) ∧ carrying.findMove 5 = some (loweringMove { link := true })
      ∧ carrying.moveCoil (loweringMove { link := true }) = some { coilAt 1 (.hook .c1) with active := some 5 }
      ∧ carrying.slot (bot 5) = some (.reservedIn 5) ∧ bot 9 ≠ bot 5
      ∧ chosenSlot (withFree carrying (bot 5)) (coilAt 1 (.hook .c1)).load (some (700, 300)) (bytes [0, 5, 1, 7, 0, 9]) 3 (bot 9)
      ∧ carrying.placePos (.hook .c1) = some (700, 300) ∧ carrying.takes (.moveRedirect 1 (bytes [0, 5, 6, 0, 0, 0]))
      ∧ chosenSlot (withFree carrying (bot 5)) (coilAt 1 (.hook .c1)).load (some (700, 300)) (bytes [0, 5, 6, 0, 0, 0]) 3 (bot 1)
      ∧ asksAuto (bytes [0, 5, 6, 9, 9, 0]) 3 { range := some (9, 9) }
      ∧ (withFree carrying (bot 5)).autoSlot (coilAt 1 (.hook .c1)).load (700, 300) { range := some (9, 9) } = none :=
  ⟨hears_takes (by decide +kernel), by decide +kernel, by decide +kernel, by decide +kernel, by decide +kernel,
    .inl ⟨by decide +kernel, by unfold carriesSlot; decide +kernel, by decide +kernel⟩, by decide +kernel, hears_takes (by decide +kernel),
    .inr ⟨{}, (700, 300), ⟨by decide +kernel, rfl, rfl, .inl ⟨by decide +kernel, by decide +kernel, rfl⟩⟩, rfl, by decide +kernel⟩,
    ⟨by decide +kernel, rfl, rfl, .inr ⟨by decide +kernel, by decide +kernel⟩⟩, by decide +kernel⟩

/-- The fences 1 to `n` in use. -/
def fenced (n : Nat) : State :=
  { up .run with runway := { (up .run).runway with fences := (List.range n).map fun i => (i + 1, ⟨20000 + i, 20000 + i, .active⟩) } }

theorem wit_RowsAndFencesSet :
    ((up .run).takes (.rowProtect 1 (bytes [40, 1])) ∧ (up .run).layout.committed.rows.get? 40 = none)
      ∧ ((up .run).takes (.rowProtect 1 (bytes [7, 0])) ∧ (up .run).layout.committed.rows.get? 7 ≠ none)
      ∧ ((fenced 3).takes (.fenceAdd 1 (u16 24000 ++ u16 24000)) ∧ (fenced 3).fencesOrdered ∧ (fenced 3).runway.fences.get? 4 = none
        ∧ (∀ j, 1 ≤ j → j < 4 → (fenced 3).runway.fences.get? j ≠ none)
        ∧ ¬ ∃ c k, (fenced 3).runway.claims.get c = some k ∧ (24000 : Int) ≤ k.hi ∧ k.lo ≤ 24000)
      ∧ ((fenced 4).takes (.fenceAdd 1 (u16 0 ++ u16 24000)) ∧ (fenced 4).fencesOrdered
        ∧ ∀ n, 1 ≤ n → n ≤ 4 → (fenced 4).runway.fences.get? n ≠ none)
      ∧ (fenced 4).takes (.fenceRemove 1 (bytes [4])) ∧ (fenced 4).noWaits := by
  refine ⟨⟨hears_takes (by decide +kernel), by decide +kernel⟩, ⟨hears_takes (by decide +kernel), by decide +kernel⟩,
    ⟨hears_takes (by decide +kernel), ⟨by decide +kernel, by decide +kernel⟩, by decide +kernel, ?_, ?_⟩,
    ⟨hears_takes (by decide +kernel), ⟨by decide +kernel, by decide +kernel⟩, ?_⟩, hears_takes (by decide +kernel), rfl,
    fun b => by cases b <;> rfl⟩
  · have : ∀ j < 4, 1 ≤ j → (fenced 3).runway.fences.get? j ≠ none := by decide +kernel
    exact fun j h1 h2 => this j h2 h1
  · rintro ⟨c, k, h, -⟩; cases c <;> simp [fenced, up, PerCrane.get, PerCrane.all] at h
  · have : ∀ j < 5, 1 ≤ j → (fenced 4).runway.fences.get? j ≠ none := by decide +kernel
    exact fun j h1 h2 => this j (by omega) h1

/-- Crane 1 OUT with its record as given, the claim of crane 2 east of it. -/
def reinstating (r : CraneRec) : State :=
  { up .run with
    cranes := (up .run).cranes.set .c1 { r with service := .out }
    runway := { (up .run).runway with claims := (up .run).runway.claims.set .c2 (some ⟨1551, 3000, .stationary⟩) } }

/-- That crane with crane 2 in its way, and with fence 2 in its way instead. -/
def overlapped : State :=
  { reinstating (inAt 700 300) with
    runway := { (reinstating (inAt 700 300)).runway with claims := (up .run).runway.claims.set .c2 (some ⟨1550, 3000, .stationary⟩) } }
def fencedIn : State :=
  { reinstating (inAt 700 300) with
    runway := { (reinstating (inAt 700 300)).runway with fences := [(1, ⟨1551, 1600, .active⟩), (2, ⟨1550, 1560, .pending⟩)] } }

theorem beside_reinstating (n : Nat) : claimsBeside (reinstating (inAt 700 300)) .c1 0 1550 n := by
  intro j k hj _ hk
  cases j <;> simp [reinstating, up, PerCrane.get, PerCrane.set, PerCrane.all] at hj hk; subst hk; simp [craneNum]

theorem wit_CraneReinstated :
    (({ up .run with layout := {} } : State).takes (.craneReinstate 1 (bytes [1]))
        ∧ ({ up .run with layout := {} } : State).layout.committed.cranes.get .c1 = none)
      ∧ (twoCranes.takes (.craneReinstate 1 (bytes [1])) ∧ (twoCranes.cranes.get .c1).service ≠ .out)
      ∧ ((reinstating { inAt 700 300 with fault := some { cls := 2, code := 3, time := 0, detail := 1 } }).takes (.craneReinstate 1 (bytes [1])))
      ∧ ((reinstating {}).takes (.craneReinstate 1 (bytes [1])) ∧ ((reinstating {}).cranes.get .c1).last = none)
      ∧ (overlapped.takes (.craneReinstate 1 (bytes [1])) ∧ claimsBeside overlapped .c1 0 1550 (craneNum .c2)
        ∧ (overlapped.runway.claims.get .c2).map (·.lo) = some 1550)
      ∧ (fencedIn.takes (.craneReinstate 1 (bytes [1])) ∧ claimsBeside fencedIn .c1 0 1550 5 ∧ fencedIn.fencesOrdered
        ∧ ∀ i g, i < 2 → fencedIn.runway.fences.get? i = some g → (g.hi : Int) < 0 ∨ 1550 < (g.lo : Int))
      ∧ (reinstating (inAt 700 300)).takes (.craneReinstate 1 (bytes [1]))
        ∧ (reinstating (inAt 700 300)).hookCoil .c1 = none ∧ (reinstating (inAt 700 300)).quiet
        ∧ (max 0 (700 - 650 - 200) : Int) = 0 ∧ (min 24000 (700 + 650 + 200) : Int) = 1550
        ∧ claimsBeside (reinstating (inAt 700 300)) .c1 0 1550 5 := by
  refine ⟨⟨hears_takes (by decide +kernel), by decide +kernel⟩, ⟨hears_takes (by decide +kernel), by decide +kernel⟩,
    hears_takes (by decide +kernel), ⟨hears_takes (by decide +kernel), by decide +kernel⟩, ⟨hears_takes (by decide +kernel), ?_, rfl⟩,
    ⟨hears_takes (by decide +kernel), beside_reinstating 5, ⟨rfl, by decide +kernel⟩, ?_⟩, hears_takes (by decide +kernel), rfl,
    ⟨⟨rfl, fun b => by cases b <;> rfl⟩, fun c => by cases c <;> rfl, rfl⟩, by decide, by decide, beside_reinstating 5⟩
  · intro j k hj hn hk
    cases j <;> simp [craneNum] at hj hn
  · intro i g hi hg
    obtain rfl | rfl : i = 0 ∨ i = 1 := by omega
    · cases hg
    · obtain rfl : (⟨1551, 1600, .active⟩ : Fence) = g := by simpa [fencedIn, Table.get?] using hg
      exact .inr (by decide)

/-- The fault parts used below. -/
def faultOf (cls : Nat) : FaultPart := { cls := cls, code := 1, time := 0, detail := 2 }

/-- The runway frozen by its fault. -/
def frozenRunway : State :=
  { up .quiesced with runway := { (up .quiesced).runway with fault := some (faultOf 1), frozen := true, sepLatches := [(.c1, .c2)] } }

theorem wit_FaultsCleared :
    ((reinstating { inAt 700 300 with fault := some (faultOf 2) }).takes (.faultClear 1 (bytes [1, 0, 1, 2]))
        ∧ ((reinstating { inAt 700 300 with fault := some (faultOf 2) }).cranes.get .c1).fault = some (faultOf 2))
      ∧ (frozenRunway.takes (.faultClear 1 (bytes [2, 0, 0, 2])) ∧ frozenRunway.runway.fault = some (faultOf 1) ∧ frozenRunway.quiet)
      ∧ ((moving { shiftMove .faulted with fault := some { faultOf 3 with held := { link := true } } }).takes (.faultClear 1 (bytes [0, 0, 5, 0]))
        ∧ ({ faultOf 3 with held := { link := true } } : FaultPart).held ≠ {})
      ∧ (up .run).takes (.faultClear 1 (bytes [3, 0, 0, 2])) :=
  ⟨⟨hears_takes (by decide +kernel), by decide +kernel⟩,
    ⟨hears_takes (by decide +kernel), rfl, ⟨rfl, fun b => by cases b <;> rfl⟩, fun c => by cases c <;> rfl, rfl⟩,
    ⟨hears_takes (by decide +kernel), by decide +kernel⟩, hears_takes (by decide +kernel)⟩

/-- Move 5 FAULTED in LOWER_SET with its coil on the hook of crane 1, and with nothing held. -/
def faultedLowering : Move := { loweringMove {} with state := .faulted, fault := some (faultOf 3) }

/-- Move 5 FAULTED before its grip, with or without a move that waits for it. -/
def faultedEarly (ws : List Nat) : State :=
  { onCrane { moveIn .faulted .travelSrc with fault := some (faultOf 3) } { inAt 700 300 with current := some 5, order := some stopped } with
    moves := { table := [(0, { moveIn .faulted .travelSrc with fault := some (faultOf 3) }), (1, { queuedMove with number := 6, waits := ws })], last := 6 } }

/-- Crane 1 OUT by a fault with its current move HELD and move 4 parked. -/
def handingBack : State :=
  { queued with
    cranes := queued.cranes.set .c1 { inAt 700 300 with service := .out, fault := some (faultOf 2), current := some 5, park := [4], order := some stopped }
    moves :=
      { table := [(0, { moveIn .held .travelSrc with causes := { crane := true } }), (1, { moveIn .parked .claimSrc with number := 4, coil := none })]
        last := 5 } }

theorem wit_FaultsCleared_moves :
    ((movingOut faultedLowering).takes (.faultClear 1 (bytes [0, 0, 5, 0])) ∧ (movingOut faultedLowering).findMove 5 = some faultedLowering
        ∧ ((movingOut faultedLowering).cranes.get .c1).service = .out ∧ (faultOf 3).held = {})
      ∧ ((moving faultedLowering).takes (.faultClear 1 (bytes [0, 0, 5, 0])) ∧ ((moving faultedLowering).cranes.get .c1).order = none)
      ∧ ((withMove (up .quiesced) faultedLowering).takes (.faultClear 1 (bytes [0, 0, 5, 0])))
      ∧ ((withMove (up .setup) faultedLowering).takes (.faultClear 1 (bytes [0, 0, 5, 1])))
      ∧ ((faultedEarly [5]).takes (.faultClear 1 (bytes [0, 0, 5, 1])) ∧ ∃ w ∈ (faultedEarly [5]).moves.table.vals, 5 ∈ w.waits)
      ∧ (({ carrying with moves := { table := [(0, faultedLowering)], last := 5 } } : State).takes (.faultClear 1 (bytes [0, 0, 5, 1]))
        ∧ carrying.moveCoil faultedLowering = some { coilAt 1 (.hook .c1) with active := some 5 })
      ∧ (faultedEarly []).takes (.faultClear 1 (bytes [0, 0, 5, 1])) ∧ answered (faultedEarly []) .c1 5 ∧ standsAlone (faultedEarly []) 5
        ∧ (faultedEarly []).findMove 5 = some { moveIn .faulted .travelSrc with fault := some (faultOf 3) } ∧ (faultedEarly []).quiet
        ∧ ungripped (faultedEarly []) { moveIn .faulted .travelSrc with fault := some (faultOf 3) }
            { coilAt 1 (.slot (bot 3)) with active := some 5 } (bot 3) (bot 5) := by
  refine ⟨⟨hears_takes (by decide +kernel), by decide +kernel, rfl, rfl⟩, ⟨hears_takes (by decide +kernel), rfl⟩, hears_takes (by decide +kernel),
    hears_takes (by decide +kernel), ⟨hears_takes (by decide +kernel), by decide +kernel⟩, ⟨hears_takes (by decide +kernel), by decide +kernel⟩,
    hears_takes (by decide +kernel), ?_, ?_, rfl, ⟨⟨rfl, fun b => by cases b <;> rfl⟩, fun c => by cases c <;> rfl, rfl⟩, queued_ungripped⟩
  · rintro o r ⟨⟩ - - ⟨⟩ -
    exact ⟨nofun, nofun⟩
  · show ∀ w ∈ (faultedEarly []).moves.table.vals, _
    decide +kernel

theorem wit_FaultsCleared_crane :
    (({ carrying with cranes := (up .run).cranes.set .c1 { inAt 700 300 with fault := some (faultOf 2), current := some 5 } } : State).takes
        (.faultClear 1 (bytes [1, 0, 1, 3]))
        ∧ carrying.moveCoil (loweringMove { link := true }) = some { coilAt 1 (.hook .c1) with active := some 5 })
      ∧ handingBack.takes (.faultClear 1 (bytes [1, 0, 1, 3])) ∧ handingBack.craneless
        ∧ handingBack.findMove 5 = some { moveIn .held .travelSrc with causes := { crane := true } }
        ∧ handingBack.findMove 4 = some { moveIn .parked .claimSrc with number := 4, coil := none }
        ∧ returnable handingBack .c1 { moveIn .held .travelSrc with causes := { crane := true } }
        ∧ (handingBack.cranes.get .c1).park.reverse = [4] := by
  refine ⟨⟨hears_takes (by decide +kernel), by decide +kernel⟩, hears_takes (by decide +kernel),
    ⟨⟨rfl, fun b => by cases b <;> rfl⟩, fun c => by cases c <;> rfl, by decide +kernel⟩, by decide +kernel, by decide +kernel, ⟨rfl, ?_, ?_⟩, rfl⟩
  · intro k d h
    obtain rfl : { coilAt 1 (.slot (bot 3)) with active := some 5 } = k := Option.some.inj h
    exact nofun
  · rintro o r ⟨⟩ - - ⟨⟩ -
    exact nofun

/-- Every subject with its fault part open. -/
def allFaulted : State :=
  { moving { shiftMove .faulted with fault := some (faultOf 3) } with
    cranes := (up .run).cranes.set .c1 { inAt 700 300 with fault := some (faultOf 2) }
    runway := { (up .run).runway with fault := some (faultOf 1) }
    coordFault := some (faultOf 0) }

theorem wit_FaultsEscalate :
    ((Work.start (up .run)).cranes.get .c1).fault = none ∧ (Work.start (up .run)).runway.fault = none ∧ (Work.start (up .run)).coordFault = none
      ∧ ((Work.start allFaulted).cranes.get .c1).fault = some (faultOf 2) ∧ (Work.start allFaulted).runway.fault = some (faultOf 1)
      ∧ (Work.start allFaulted).coordFault = some (faultOf 0)
      ∧ ((Work.start allFaulted).findMove 5).map (·.fault) = some (some (faultOf 3))
      ∧ ((Work.start (moving (shiftMove .active))).findMove 5).map (·.fault) = some none := by decide +kernel

/-- The body of a check-in that gives `visitA`. -/
def checkinBody : List Byte :=
  bytes [1] ++ truckA ++ u16 1000 ++ u16 4000 ++ u16 6000 ++ u16 20000 ++ u16 24000 ++ u16 40000 ++ bytes [1] ++ u16 610 ++ u16 30000 ++ u16 2000
    ++ List.replicate 18 0

theorem checkin_fields : checkinFieldsOk checkinBody := by
  have chars : (fieldBytes checkinBody 2 16).all (fun x => decide (0x41 ≤ x.toNat ∧ x.toNat ≤ 0x5A)) = true := by decide +kernel
  have count : u8At checkinBody 30 = 1 := by decide +kernel
  refine ⟨fun x hx => .inr (.inl (by simpa using List.all_eq_true.mp chars x hx)), ?_, ?_, ?_, ?_, ?_, ?_, ?_, fun i hi => ?_⟩
  case refine_8 =>
    obtain rfl : i = 0 := by omega
    exact ⟨by decide +kernel, nofun, by decide +kernel, by decide +kernel⟩
  all_goals decide +kernel

/-- The scale of bay 1 READY, its lines asserted. -/
def scaleReady (s : State) : State :=
  { s with
    bays := s.bays.set .b1 { s.bays.b1 with inPosition := true, safe := true }
    weighing := { s.weighing with bays := s.weighing.bays.set .b1 { s.weighing.bays.b1 with warm := 5, state := .ready } } }

/-- A secured bay whose scale warms up. -/
def warming : State := withScale (scaleReady (up .run)) .b1 { (scaleReady (up .run)).weighing.bays.b1 with warm := 0, state := .warmup }

theorem wit_TruckCheckedIn :
    ((({ up .run with layout := {} } : State).takes (.truckCheckin 1 checkinBody))
        ∧ ({ up .run with layout := {} } : State).layout.committed.bays.get .b1 = none ∧ u8At checkinBody 1 = bayNum .b1 ∧ checkinFieldsOk checkinBody)
      ∧ ((withTruck (up .run) .ready).takes (.truckCheckin 1 checkinBody) ∧ ((withTruck (up .run) .ready).bays.get .b1).visit ≠ none)
      ∧ ((up .run).takes (.truckCheckin 1 checkinBody) ∧ ((up .run).bays.get .b1).inPosition = false)
      ∧ ((withBaySession (up .run) .b1 (some { kind := .zero, started := 0 })).takes (.truckCheckin 1 checkinBody))
      ∧ ((scaleReady (up .run)).takes (.truckCheckin 1 checkinBody) ∧ ((scaleReady (up .run)).bays.get .b1).safe = true
        ∧ ((scaleReady (up .run)).weighing.bays.get .b1).state = .ready)
      ∧ (warming.takes (.truckCheckin 1 checkinBody) ∧ (warming.bays.get .b1).safe = true ∧ (warming.bays.get .b1).visit = none
        ∧ (warming.weighing.bays.get .b1).state = .warmup) :=
  ⟨⟨hears_takes (by decide +kernel), rfl, by decide +kernel, checkin_fields⟩, ⟨hears_takes (by decide +kernel), by decide +kernel⟩,
    ⟨hears_takes (by decide +kernel), rfl⟩, hears_takes (by decide +kernel), ⟨hears_takes (by decide +kernel), rfl, rfl⟩,
    hears_takes (by decide +kernel), rfl, rfl, rfl⟩

/-- A READY truck, tared, and coil 1 in bottom slot 3. -/
def readyTruck : State := withVisit oneCoil .b1 (some { visitA .ready with tare := some (9000, 4) })

/-- The plan of coil 1 for cradle 1. -/
def planBody : List Byte := bytes [1, 255, 1] ++ idOf 1 ++ bytes [1]

theorem wit_LoadPlanned :
    ((withTruck (up .run) .securing).takes (.loadPlan 1 planBody) ∧ planBody.length = 16 ∧ carriesPriority planBody 2 5
        ∧ millIdOk (fieldBytes planBody 4 12))
      ∧ (({ readyTruck with coils := [(1, { coilAt 1 (.slot (bot 3)) with thermal := .hot 1 })] } : State).takes (.loadPlan 1 planBody))
      ∧ readyTruck.takes (.loadPlan 1 planBody) ∧ readyTruck.findCoil (fieldBytes planBody 4 12) = some (coilAt 1 (.slot (bot 3)))
        ∧ readyTruck.bounded ∧ readyTruck.slot (bot 3) = some (.occupied (idOf 1)) ∧ nextMove readyTruck 1 0
        ∧ (∀ o ∈ coveringSlots readyTruck.layout.committed (bot 3), readyTruck.slot o = none)
        ∧ ((2 * 10000 * 610 + 1000) / (2 * 1000) : Int) = 6100 ∧ (4000 + (10000 - 6100) ≤ 20000 ∧ 6000 + 6100 ≤ 24000 ∧ 9000 + 10000 ≤ 40000)
        ∧ readyTruck.craneless := by
  refine ⟨⟨hears_takes (by decide +kernel), by decide +kernel, .inr (by decide +kernel), ids_ok 1 (by decide)⟩, hears_takes (by decide +kernel),
    hears_takes (by decide +kernel), by decide +kernel, ?_, by decide +kernel, ?_, by decide +kernel, by decide, by decide,
    ⟨rfl, fun b => by cases b <;> rfl⟩, fun c => by cases c <;> rfl, ?_⟩
  · exact oneCoil_bounded
  · exact oneCoil_next
  · exact oneCoil_craneless.2.2

/-- A visit with coil 1 on its one cradle. -/
def loadedTruck (st : VisitState) : State :=
  withVisit { up .run with coils := [(1, coilAt 1 (.cradle .b1 1))] } .b1
    (some { visitA st with cradles := [{ d := 610, maxWeight := 30000, maxOd := 2000, state := .loaded (idOf 1) none }] })

theorem wit_TrucksReleasedAndAborted :
    ((loadedTruck .loading).takes (.truckRelease 1 (bytes [1])) ∧ VisitState.loading ≠ .verified ∧ VisitState.loading ≠ .discrepancy)
      ∧ ((loadedTruck .verified).takes (.truckRelease 1 (bytes [1]))
        ∧ ((loadedTruck .verified).visitOf .b1).map (·.loadedCradles) = some [(1, idOf 1)])
      ∧ ((withTruck (up .run) .unloading).takes (.truckAbort 1 (bytes [1])) ∧ (withTruck (up .run) .unloading).bounded)
      ∧ ((withTruck (up .run) .ready).takes (.truckAbort 1 (bytes [1])) ∧ (visitA .ready).loadedCradles = []
        ∧ (withTruck (up .run) .ready).moves.queue = [])
      ∧ (loadedTruck .discrepancy).takes (.truckAbort 1 (bytes [1])) ∧ (loadedTruck .discrepancy).bounded
        ∧ ((loadedTruck .discrepancy).visitOf .b1).map (·.loadedCradles) = some [(1, idOf 1)]
        ∧ (loadedTruck .discrepancy).findCoil (idOf 1) = some (coilAt 1 (.cradle .b1 1))
        ∧ (loadedTruck .discrepancy).cradlePos .b1 1 = some (2910, 1200)
        ∧ (loadedTruck .discrepancy).autoSlot (coilAt 1 (.cradle .b1 1)).load (2910, 1200) = some (bot 5)
        ∧ nextMove (loadedTruck .discrepancy) 1 0 ∧ (loadedTruck .discrepancy).craneless := by
  refine ⟨⟨hears_takes (by decide +kernel), nofun, nofun⟩, ⟨hears_takes (by decide +kernel), by decide +kernel⟩,
    ⟨hears_takes (by decide +kernel), bounded_up _⟩, ⟨hears_takes (by decide +kernel), by decide +kernel, rfl⟩,
    hears_takes (by decide +kernel), ?_, by decide +kernel, by decide +kernel, by decide +kernel, by decide +kernel, ?_,
    ⟨rfl, fun b => by cases b <;> rfl⟩, fun c => by cases c <;> rfl, ?_⟩
  · simp [State.bounded, loadedTruck, withVisit, up, Table.wf]
  · simp [nextMove, loadedTruck, withVisit, up, Table.vals, lowestEmpty, Table.get?]
  · simp [loadedTruck, withVisit, up, Table.vals]

/-- A scale READY at bay 1 with no line asserted, with a session or none. -/
def scaleWith (st : ScaleState) (x : Option Session) (warm : Nat := 5) : State :=
  withScale (up .run) .b1 { warm := warm, state := st, session := x, trim := 20 }

/-- A session of a kind in a stage. -/
def sessionOf (k : SessionKind) (st : Stage) : Session := { kind := k, stage := st, started := 0 }

theorem wit_ScaleZeroStarted :
    ((up .run).takes (.scaleZero 1 (bytes [2])) ∧ (up .run).layout.committed.bays.get .b2 = none)
      ∧ (withTruck (up .run) .ready).takes (.scaleZero 1 (bytes [1]))
      ∧ ((scaleReady (up .run)).takes (.scaleZero 1 (bytes [1])) ∧ ((scaleReady (up .run)).bays.get .b1).inPosition = true)
      ∧ ((scaleWith .ready (some (sessionOf .zero .settle))).takes (.scaleZero 1 (bytes [1])))
      ∧ ((scaleWith .over none).takes (.scaleZero 1 (bytes [1])))
      ∧ (scaleWith .ready none).takes (.scaleZero 1 (bytes [1])) ∧ ((scaleWith .ready none).weighing.bays.get .b1).state = .ready :=
  ⟨⟨hears_takes (by decide +kernel), rfl⟩, hears_takes (by decide +kernel), ⟨hears_takes (by decide +kernel), rfl⟩,
    hears_takes (by decide +kernel), hears_takes (by decide +kernel), hears_takes (by decide +kernel), rfl⟩

/-- Two HOT coils on hooks. -/
def hotCoils (c d : CraneId) : State :=
  { up .run with coils := [(0, { coilAt 0 (.hook c) with thermal := .hot 1 }), (1, { coilAt 1 (.hook d) with thermal := .hot 2 })] }

/-- The same right before the counter comes to a whole multiple of 60. -/
def minuteBefore (c d : CraneId) : State := { hotCoils c d with clock := 59 }

theorem wit_SecondsAndMinutes :
    ({ up .run with power := .off } : State).power = .off
      ∧ ((up .run).power ≠ .off ∧ (counted (up .run)).clock % 60 ≠ 0)
      ∧ (counted { up .run with clock := 4294967295 }).clock = 0
      ∧ ((minuteBefore .c1 .c2).power ≠ .off ∧ (counted (minuteBefore .c1 .c2)).clock % 60 = 0
        ∧ (cooled (counted (minuteBefore .c1 .c2))).tableFault = none)
      ∧ (minuteBefore .c1 .c1).link.mode ≠ .stopped ∧ (counted (minuteBefore .c1 .c1)).clock % 60 = 0
        ∧ (cooled (counted (minuteBefore .c1 .c1))).tableFault = some 3 ∧ (minuteBefore .c1 .c1).coordFault = none
        ∧ ∀ c, ((minuteBefore .c1 .c1).cranes.get c).service ≠ .yielding :=
  ⟨rfl, ⟨by decide +kernel, by decide +kernel⟩, by decide +kernel, ⟨by decide +kernel, by decide +kernel, by decide +kernel⟩, by decide +kernel,
    by decide +kernel, by decide +kernel, rfl, fun c => by cases c <;> decide +kernel⟩

theorem wit_TableCheckFindsFirstItem : oneCoil.bounded := oneCoil_bounded

/-- Crane 1 at 700 cm in a mode, with an order or none and a claim or none. -/
def craneOne (m : Mode) (o : Option Order) (k : Option Claim) : State :=
  { up m with
    cranes := (up m).cranes.set .c1 { inAt 700 300 with order := o }
    runway := { (up m).runway with claims := (up m).runway.claims.set .c1 k } }

/-- A TRAVEL under way. -/
def travelling : Order := { num := 4, kind := .travel, x := 800, y := 310, use := .phase 5 }

theorem alone_one (m : Mode) (o : Option Order) (k : Option Claim) : alone (craneOne m o k) .c1 := by
  intro d hd; cases d <;> first | exact absurd rfl hd | rfl

theorem empty_reading (m : Mode) (o : Option Order) (k : Option Claim) : emptyReading (craneOne m o k) (entry 650) (statusAt 800 310) := by
  refine ⟨by decide, by decide, by decide +kernel, ?_, by decide +kernel⟩
  show netOf (entry 650) (statusAt 800 310) ≤ 500
  decide +kernel

/-- Crane 2 stands at 2,200 cm, with no claim, and crane 1 reports beside it; the separation latches are given. -/
def besideTwo (l : List (CraneId × CraneId)) : State :=
  { up .run with
    cranes := ((up .run).cranes.set .c1 (inAt 700 300)).set .c2 (inAt 2200 300)
    runway := { (up .run).runway with sepLatches := l } }

theorem wit_CraneStatusTaken :
    ({ up .run with layout := {} } : State).layout.committed.cranes.get .c1 = none
      ∧ ((craneOne .stopped none none).link.mode = .stopped ∧ (craneOne .stopped none none).layout.committed.cranes.get .c1 = some (entry 650))
      ∧ (((craneOne .stopped (some travelling) none).cranes.get .c1).order = some travelling ∧ (statusAt 800 310).order ≠ travelling.num)
      ∧ ((craneOne .setup none none).link.mode ≠ .stopped ∧ alone (craneOne .setup none none) .c1
        ∧ emptyReading (craneOne .setup none none) (entry 650) (statusAt 800 310))
      ∧ (craneOne .run none (some ⟨0, 1399, .stationary⟩)).runway.claims.get .c1 = some ⟨0, 1399, .stationary⟩
        ∧ alone (craneOne .run none (some ⟨0, 1399, .stationary⟩)) .c1
        ∧ emptyReading (craneOne .run none (some ⟨0, 1399, .stationary⟩)) (entry 650) (statusAt 800 310)
        ∧ (1399 : Int) + 50 < ((statusAt 800 310).x : Int) + 650
      ∧ (besideTwo []).layout.committed.cranes.get .c2 = some (entry 650) ∧ ((besideTwo []).cranes.get .c2).last = some (statusAt 2200 300, 0)
        ∧ (∀ j, j ≠ .c1 → j ≠ .c2 → ((besideTwo []).cranes.get j).last = none)
        ∧ emptyReading (besideTwo []) (entry 650) (statusAt 800 310)
        ∧ ((2200 : Int) - 650 - (800 + 650) = 100 ∧ (2200 : Int) - 650 - (801 + 650) < 100 ∧ (besideTwo []).layout.committed.sMin = 100)
        ∧ (.c1, .c2) ∈ (besideTwo [(.c1, .c2)]).runway.sepLatches ∧ (.c1, .c2) ∉ (besideTwo []).runway.sepLatches
        ∧ (besideTwo []).runway.fault = none ∧ (besideTwo []).moves.table = [] :=
  ⟨rfl, ⟨rfl, rfl⟩, ⟨rfl, by decide⟩, ⟨by decide +kernel, alone_one _ _ _, empty_reading _ _ _⟩, rfl, alone_one _ _ _, empty_reading _ _ _,
    by decide +kernel, rfl, rfl, by intro j h1 h2; cases j <;> first | exact absurd rfl h1 | exact absurd rfl h2 | rfl,
    ⟨by decide, by decide, by decide +kernel, by show netOf (entry 650) (statusAt 800 310) ≤ 500; decide +kernel, by decide +kernel⟩,
    by decide +kernel, by decide +kernel, by decide +kernel, rfl, rfl⟩

/-- Crane 1 near the end of the TRAVEL of a SHIFT. -/
def shifting : State :=
  { moving (shiftMove .active) with
    cranes := (up .run).cranes.set .c1 { inAt 700 300 with current := some 5, order := some travelling }
    runway := { (up .run).runway with claims := (up .run).runway.claims.set .c1 (some ⟨100, 1450, .travel⟩) } }

theorem wit_ShiftTravelCompletes :
    shifting.layout.committed.cranes.get .c1 = some (entry 650) ∧ shifting.layout.committed.size = some ⟨24000, 2400⟩
      ∧ shifting.link.mode = .run ∧ shifting.runway.frozen = false ∧ shifting.quiet ∧ alone shifting .c1 ∧ shifting.runway.fences = []
      ∧ (shifting.cranes.get .c1).order = some travelling ∧ travelling.former = false ∧ shifting.findMove 5 = some (shiftMove .active)
      ∧ (shiftMove .active).dest = .runway 800 ∧ |(((statusAt 750 360).x : Int)) - travelling.x| = 50 ∧ |(((statusAt 750 360).y : Int)) - travelling.y| = 50
      ∧ (100 : Int) ≤ 750 - 650 ∧ (750 : Int) + 650 ≤ 1450 ∧ emptyReading shifting (entry 650) { statusAt 750 360 with order := 4, ostate := .done } := by
  have hq : shifting.quiet := ⟨⟨rfl, fun b => by cases b <;> rfl⟩, fun c => by cases c <;> rfl, rfl⟩
  have ha : alone shifting .c1 := fun d hd => by cases d <;> first | exact absurd rfl hd | rfl
  have hl : netOf (entry 650) { statusAt 750 360 with order := 4, ostate := .done } ≤ 500 := by decide +kernel
  refine ⟨rfl, rfl, rfl, rfl, hq, ha, rfl, rfl, rfl, ?_, rfl, ?_, ?_, ?_, ?_, ?_, ?_, ?_, hl, ?_⟩ <;> decide +kernel

/-- Coil 1 loaded on a visit, for the source of a grip. -/
theorem wit_GripAndSetMoveTheCoil :
    ((Work.start queued).findCoil (idOf 1) = some { coilAt 1 (.slot (bot 3)) with active := some 5 }
        ∧ (Work.start queued).slot (bot 3) = some (.reservedOut 5 (idOf 1)) ∧ (Work.start queued).slot (bot 5) = some (.reservedIn 5))
      ∧ ({ up .run with yard := { ia := some (idOf 1) } } : State).yard.onSaddle .ia = some (idOf 1)
      ∧ ((Work.start readyTruck).bays.get .b1).visit.isSome = true ∧ ((visitA .ready).cradle 1).isSome = true := by decide +kernel

theorem wit_ReportsLateAndLost :
    (((craneOne .run none none).cranes.get .c1).timer = true ∧ ((craneOne .run none none).cranes.get .c1).late = false)
      ∧ ((up .run).cranes.get .c1).timer = false
      ∧ (craneOne .run none (some ⟨0, 24000, .stationary⟩)).runway.claims.get .c1 = some ⟨0, 24000, .stationary⟩
        ∧ (∀ d, d ≠ .c1 → (craneOne .run none (some ⟨0, 24000, .stationary⟩)).runway.claims.get d = none)
        ∧ alone (craneOne .run none (some ⟨0, 24000, .stationary⟩)) .c1 := by
  refine ⟨⟨rfl, rfl⟩, rfl, rfl, ?_, alone_one _ _ _⟩
  intro d hd; cases d <;> first | exact absurd rfl hd | rfl

/-- Crane 1 waits with fence 1. -/
def waitingForFence : State :=
  { moving { shiftMove .active with phase := some .claimDest, blocker := some 11 } with
    runway := { (up .run).runway with
      fences := [(1, ⟨5000, 6000, .active⟩)], waits := (up .run).runway.waits.set .c1 (some ⟨5, 0, 9850, 11, 0, 1⟩) } }

theorem wit_ClaimWaitTimesOut :
    (up .run).runway.waits.get .c1 = none
      ∧ waitingForFence.runway.waits.get .c1 = some ⟨5, 0, 9850, 10 + 1, 0, 1⟩
        ∧ (waitingForFence.findMove 5).map (fun m => (m.fault, m.state, m.crane, m.afterAbort)) = some (none, .active, some .c1, none)
        ∧ (∀ d, d ≠ .c1 → waitingForFence.runway.waits.get d = none) ∧ (∀ b, (waitingForFence.bays.get b).waiting = [])
        ∧ (∀ d, (waitingForFence.cranes.get d).park = []) ∧ waitingForFence.moves.queue = []
        ∧ ∀ o, (waitingForFence.cranes.get .c1).order = some o → o.kind ≠ .abortLower := by
  refine ⟨rfl, rfl, by decide +kernel, ?_, fun b => by cases b <;> rfl, fun c => by cases c <;> rfl, rfl, order_none rfl⟩
  intro d hd; cases d <;> first | exact absurd rfl hd | rfl

theorem wit_BayScanTaken :
    (up .run).layout.committed.bays.get .b2 = none ∧ ((scaleWith .warmup none 4).weighing.bays.get .b1).warm < 5
      ∧ ((scaleWith .warmup none).weighing.bays.get .b1).session = none ∧ 5 ≤ ((scaleWith .warmup none).weighing.bays.get .b1).warm
      ∧ bayKg bayA 8388607 0 0 0 = 8389 ∧ bayKg bayA 20000000 20000000 20000000 20000 = 60020
      ∧ ((scaleWith .over (some (sessionOf .tare .waitReady))).weighing.bays.get .b1).session = some (sessionOf .tare .waitReady)
      ∧ (bayKg bayA 0 0 0 0 - 20 : Int) ≤ 60000 := by decide +kernel

/-- A move of crane 1 that weighs, in stage WINDOW, bound for bottom slot 5. -/
def weighing : State :=
  let s := moving { loweringMove {} with state := .active, phase := some .weigh }
  { s with
    coils := [(1, { coilAt 1 (.hook .c1) with active := some 5 })]
    yard := { slots := [((bot 5).key, ⟨bot 5, .reservedIn 5⟩)] }
    weighing := { s.weighing with cranes := s.weighing.cranes.set .c1 { session := some { sessionOf .hook .window with move := some 5 } } } }

theorem wit_SessionTimersExpire :
    (∀ x, ((up .run).weighing.cranes.get .c1).session = some x → x.stage ≠ .window)
      ∧ (∀ x, ((scaleWith .ready (some (sessionOf .gross .settle))).weighing.bays.get .b1).session = some x → x.stage ≠ .window)
      ∧ ((scaleWith .ready (some (sessionOf .gross .window))).weighing.bays.get .b1).session = some (sessionOf .gross .window)
      ∧ (weighing.weighing.cranes.get .c1).session = some { sessionOf .hook .window with move := some 5 }
        ∧ weighing.findMove 5 = some { loweringMove {} with state := .active, phase := some .weigh } ∧ weighing.quiet
        ∧ weighing.layout.committed.slotPos (bot 5) = some (8400, 1190)
        ∧ weighing.blocker .c1 (addedStretch (weighing.runway.claims.get .c1) (weighing.requestedClaim .c1 8400)) = none := by
  refine ⟨nofun, ?_, rfl, rfl, by decide +kernel, ⟨⟨rfl, fun b => by cases b <;> rfl⟩, fun c => by cases c <;> rfl, rfl⟩, by decide +kernel,
    by decide +kernel⟩
  intro x hx
  cases hx; decide

/-- A LOADING visit at a secured bay whose lock the lowering move of crane 1 holds. -/
def lockHeld : State :=
  let s := withTruck (scaleReady (moving { loweringMove {} with state := .active, dest := .cradle .b1 1 })) .loading
  { s with bays := s.bays.set .b1 { s.bays.b1 with lock := some 5 } }

theorem wit_BayLineFollowed :
    (((up .stopped).weighing.bays.get .b1).session = none ∧ (withTruck (up .stopped) .securing).link.mode = .stopped)
      ∧ (((scaleWith .ready (some (sessionOf .zero .window))).bays.get .b1).visit = none
        ∧ ((scaleWith .ready (some (sessionOf .zero .window))).bays.get .b1).inPosition = false)
      ∧ (((withTruck (scaleWith .ready none) .securing).bays.get .b1).secured = false
        ∧ (lineAt { ((withTruck (scaleWith .ready none) .securing).bays.get .b1) with safe := true } .inPosition true).safe = true)
      ∧ (((withTruck (scaleReady (up .run)) .loading).bays.get .b1).secured = true
        ∧ ((withTruck (scaleReady (up .run)) .loading).bays.get .b1).lock = none)
      ∧ ((withTruck (scaleReady (up .run)) .departing).bays.get .b1).inPosition = true
      ∧ ((lockHeld.bays.get .b1).lock = some 5 ∧ (lockHeld.bays.get .b1).secured = true
        ∧ lockHeld.findMove 5 = some { loweringMove {} with state := .active, dest := .cradle .b1 1 }
        ∧ ((lockHeld.bays.get .b1).waiting = [] ∧ (lockHeld.bays.get .b2).waiting = [])) := by decide +kernel

theorem wit_SlotPositions : layoutA.rows.get? 8 = some { x := 8950, y0 := 300, pitch := 215, b := 6, odMin := 1000, odMax := 2200, maxWidth := 1800 } := by
  decide +kernel

theorem wit_SharesAndWindows : (0 : Kg) ≤ 19000 ∧ 1130 ≤ 1130 ∧ 0 < 1130 ∧ 0 < 10 ∧ 0 < 8 := by decide

/-! ### Frames of the crane links -/

/-- R209: the bytes of a good status frame; frames that R85 and R209 discard. -/
theorem test_status_frame :
    readStatusFrame (statusFrame (statusAt 800 310)) = .ok (statusAt 800 310)
      ∧ (statusFrame (statusAt 800 310)).take 10 = bytes [0xC5, 16, 0x81, 0, 0, 0x03, 0x20, 0x01, 0x36, 0] := by decide +kernel

theorem test_status_discards :
    readStatusFrame ((statusFrame (statusAt 800 310)).dropLast ++ [0]) = .error .badCrc
      ∧ readStatusFrame (statusFrame (statusAt 800 310)).dropLast = .error .badLength
      ∧ readStatusFrame (craneFrame 0x82 (statusBytes (statusAt 800 310))) = .error .unknownType
      ∧ readStatusFrame (craneFrame 0x81 (statusBytes (statusAt 800 310)).dropLast) = .error .badLength
      ∧ readStatusFrame (craneFrame 0x81 ((statusBytes (statusAt 800 310)).set 1 5)) = .error .badEnum := by decide +kernel

theorem wit_StatusFramesRead :
    (up .run).received .c1 (statusFrame (statusAt 800 310)) = .ok (statusAt 800 310) ∧ (statusAt 800 310).wellFormed = true := by decide +kernel

/-! ### The Dispatcher -/

/-- Cranes 1 and 2 free at 700 and 8,000 cm; the claim of crane 2 reaches over row 7. -/
def twoFree (m : Mode) : State :=
  { up m with
    cranes := ⟨inAt 700 300, inAt 8000 300, {}, {}⟩
    runway := { (up m).runway with claims := ⟨some ⟨0, 1550, .stationary⟩, some ⟨7000, 10000, .stationary⟩, none, none⟩ } }

/-- The same with a queued RELOCATE from bottom slot 3 to bottom slot 5. -/
def dispatching : State := { twoFree .quiesced with coils := queued.coils, yard := queued.yard, moves := queued.moves }

theorem wit_DispatcherChoosesNearest :
    workPlaces dispatching queuedMove [8400, 8400]
      ∧ dispatching.chooseCrane queuedMove = some .c2 ∧ (dispatching.suits .c1 queuedMove && dispatching.isFree .c1) = true
      ∧ dispatching.westNeighbour .c1 = none ∧ dispatching.eastNeighbour .c4 = none ∧ dispatching.westNeighbour .c2 = some .c1
      ∧ dispatching.isFree .c3 = false ∧ dispatching.runway.claims.get .c3 = none ∧ (dispatching.cranes.get .c3).last = none
      ∧ dispatching.eastNeighbour .c2 = some .c3 ∧ dispatching.eastBound .c2 = 10000 ∧ dispatching.westBound .c2 = 1700 :=
  ⟨.inr ⟨by decide, by decide, (8400, 770), (8400, 1190), by decide +kernel, by decide +kernel, rfl⟩, by and_intros <;> decide +kernel⟩

/-- Crane 1 with a park stack of two moves, the top one parked in TRAVEL_SRC. -/
def parkedTwo : State :=
  { up .quiesced with
    cranes := (up .run).cranes.set .c1 { inAt 700 300 with park := [4, 5] }
    moves := { table := [(0, { queuedMove with state := .parked, phase := some .travelSrc, crane := some .c1 })], last := 5 } }

/-- A move of crane 1 on the way to its source, with a claim that leaves room for a SHIFT. -/
def beforeGrip : State :=
  { up .run with
    cranes := (up .run).cranes.set .c1 { inAt 700 300 with current := some 5, order := some travelling, park := [4] }
    runway := { (up .run).runway with claims := (up .run).runway.claims.set .c1 (some ⟨0, 9250, .travel⟩) }
    moves := { table := [(0, { queuedMove with state := .active, phase := some .travelSrc, crane := some .c1 })], last := 5 } }

/-- A SHIFT of crane 1 to 900 cm with priority 6. -/
def shiftBody : List Byte := bytes (2 :: List.replicate 12 0 ++ [1, 5, 0]) ++ u16 900 ++ bytes [6]

theorem wit_MovesAssignedParkedTaken :
    (dispatching.takes (.runStart 1 []) ∧ dispatching.layout.valid = true ∧ dispatching.runway.frozen = false ∧ dispatching.moves.queue = [5]
        ∧ (∀ d, (dispatching.cranes.get d).park = []) ∧ dispatching.findMove 5 = some queuedMove
        ∧ queuedMove.source.bind dispatching.placePos = some (8400, 770) ∧ dispatching.chooseCrane queuedMove = some .c2
        ∧ (dispatching.cranes.get .c2).order = none ∧ clearWay dispatching .c2 8400)
      ∧ (parkedTwo.takes (.runStart 1 []) ∧ parkedTwo.layout.valid = true ∧ (parkedTwo.cranes.get .c1).park = [4] ++ [5]
        ∧ (∀ d, d ≠ .c1 → (parkedTwo.cranes.get d).park = [])
        ∧ parkedTwo.findMove 5 = some { queuedMove with state := .parked, phase := some .travelSrc, crane := some .c1 }
        ∧ parkedTwo.moves.queue = [] ∧ clearWay parkedTwo .c1 8400)
      ∧ beforeGrip.takes (.moveRequest 1 shiftBody) ∧ beforeGrip.bounded ∧ carriesPriority shiftBody 19 6 ∧ u16At shiftBody 17 = 900
        ∧ nextMove beforeGrip 6 1 ∧ beforeGrip.moves.queue = []
        ∧ beforeGrip.currentMove .c1 = some { queuedMove with state := .active, phase := some .travelSrc, crane := some .c1 }
        ∧ queuedMove.priority < 6 ∧ (beforeGrip.cranes.get .c1).park.length < 2 ∧ beforeGrip.hookCoil .c1 = none
        ∧ (∀ o, (beforeGrip.cranes.get .c1).order = some o → o.kind ≠ .abortLower)
        ∧ beforeGrip.insideCorridor .c1 (beforeGrip.stationary .c1 900) = true ∧ clearWay beforeGrip .c1 900 := by
  refine ⟨⟨hears_takes (by decide +kernel), rfl, rfl, rfl, fun d => by cases d <;> rfl, by decide +kernel, by decide +kernel, by decide +kernel, rfl,
      by unfold clearWay; decide +kernel⟩,
    ⟨hears_takes (by decide +kernel), rfl, rfl, fun d hd => by cases d <;> first | exact absurd rfl hd | rfl, by decide +kernel, rfl,
      by unfold clearWay; decide +kernel⟩,
    hears_takes (by decide +kernel), ⟨⟨rfl, nofun⟩, ⟨by decide +kernel, by decide +kernel⟩, by decide +kernel, by decide +kernel⟩,
    .inl (by decide +kernel), by decide +kernel, ⟨by decide +kernel, by decide +kernel, by decide +kernel, ⟨by decide +kernel, by decide +kernel⟩, by decide⟩,
    rfl, by decide +kernel, by decide, by decide +kernel, by decide +kernel, ?_, by decide +kernel, by unfold clearWay; decide +kernel⟩
  intro o ho; obtain rfl : travelling = o := by injection ho
  decide

/-! ### Yields and mutual waits -/

/-- Crane 1 with its coil before a move to row 7, HELD in CLAIM_DEST, and crane 2 in the way with its record as given. -/
def blockedBy (r : CraneRec) (fences : Table Fence := []) : State :=
  { up .run with
    coils := [(1, { coilAt 1 (.hook .c1) with active := some 5 })]
    cranes := ⟨{ inAt 700 300 with current := some 5 }, r, {}, {}⟩
    runway := { (up .run).runway with
      claims := ⟨some ⟨0, 1550, .stationary⟩, some ⟨7150, 8850, .stationary⟩, none, none⟩, fences := fences }
    moves := { table := [(0, { loweringMove { link := true } with phase := some .claimDest })], last := 5 } }

/-- The move of `blockedBy`. -/
def heldClaim : Move := { loweringMove { link := true } with phase := some .claimDest }

/-- Crane 1 at the end of the TRAVEL of a yield. -/
def yielding : State :=
  { up .run with
    cranes := (up .run).cranes.set .c1 { inAt 700 300 with service := .yielding, order := some { travelling with use := .yieldTravel } }
    runway := { (up .run).runway with
      claims := (up .run).runway.claims.set .c1 (some ⟨100, 1450, .travel⟩), yields := (up .run).runway.yields.set .c1 (some ⟨.c2, 800⟩) } }

theorem wit_YieldsMade :
    ((blockedBy (inAt 8000 300)).takes (.moveResume 1 (bytes [0, 5])) ∧ (blockedBy (inAt 8000 300)).findMove 5 = some heldClaim
        ∧ (blockedBy (inAt 8000 300)).layout.committed.slotPos (bot 5) = some (8400, 1190)
        ∧ (blockedBy (inAt 8000 300)).requestedClaim .c1 8400 = (0, 9250)
        ∧ (blockedBy (inAt 8000 300)).blocker .c1 (addedStretch (some ⟨0, 1550, .stationary⟩) (0, 9250)) = some (craneNum .c2)
        ∧ freeCrane (blockedBy (inAt 8000 300)) .c2 ∧ (blockedBy (inAt 8000 300)).hookCoil .c2 = none
        ∧ yieldTo (blockedBy (inAt 8000 300)) .c1 .c2 8400 10151 ∧ clearWay (blockedBy (inAt 8000 300)) .c2 10151)
      ∧ ((blockedBy { inAt 8000 300 with current := some 6 }).takes (.moveResume 1 (bytes [0, 5]))
        ∧ (blockedBy { inAt 8000 300 with current := some 6 }).blocker .c1 (addedStretch (some ⟨0, 1550, .stationary⟩) (0, 9250)) = some 2
        ∧ (blockedBy { inAt 8000 300 with current := some 6 }).runway.waits.get .c2 = none)
      ∧ ((blockedBy (inAt 8000 300) [(1, ⟨5000, 6000, .active⟩)]).blocker .c1 (addedStretch (some ⟨0, 1550, .stationary⟩) (0, 9250)) = some 11
        ∧ ∀ j : CraneId, 11 ≠ craneNum j)
      ∧ yielding.quiet ∧ alone yielding .c1 ∧ yielding.runway.yields.get .c1 = some ⟨.c2, 800⟩
        ∧ (yielding.cranes.get .c1).order = some { travelling with use := .yieldTravel }
        ∧ emptyReading yielding (entry 650) { statusAt 750 360 with order := 4, ostate := .done } := by
  refine ⟨⟨hears_takes (by decide +kernel), by decide +kernel, by decide +kernel, by decide +kernel, by decide +kernel, ⟨rfl, rfl, rfl, rfl⟩, by decide +kernel,
      .inl ⟨rfl, by decide +kernel⟩, by unfold clearWay; decide +kernel⟩,
    ⟨hears_takes (by decide +kernel), by decide +kernel, rfl⟩, ⟨by decide +kernel, fun j => by cases j <;> decide⟩,
    ⟨⟨rfl, fun b => by cases b <;> rfl⟩, fun c => by cases c <;> rfl, rfl⟩, ?_, rfl, rfl, by decide, by decide, by decide +kernel, ?_, by decide +kernel⟩
  · intro d hd; cases d <;> first | exact absurd rfl hd | rfl
  · show netOf (entry 650) _ ≤ 500
    decide +kernel

/-- Cranes 1 and 2 wait on each other: crane 1 with move 5 to bottom slot 5, crane 2 with move 6 to bottom slot 6, with coils on their hooks or
none, and the priorities given. -/
def bothWait (loaded : Bool) (p1 p2 : Nat) : State :=
  { twoFree .run with
    coils := if loaded then [(1, { coilAt 1 (.hook .c1) with active := some 5 }), (2, { coilAt 2 (.hook .c2) with active := some 6 })] else []
    cranes := ⟨{ inAt 700 300 with current := some 5 }, { inAt 8000 300 with current := some 6 }, {}, {}⟩
    yard := { slots := [((bot 5).key, ⟨bot 5, .reservedIn 5⟩), ((bot 6).key, ⟨bot 6, .reservedIn 6⟩)] }
    runway := { (twoFree .run).runway with waits := ⟨some ⟨5, 0, 9250, 2, 0, 1⟩, some ⟨6, 0, 10000, 1, 0, 2⟩, none, none⟩ }
    moves := { table := [(0, { loweringMove {} with state := .active, phase := some .claimDest, priority := p1, blocker := some 2 }),
      (1, { loweringMove {} with number := 6, coil := some (idOf 2), dest := .slot (bot 6), state := .active, phase := some .claimDest, crane := some .c2
                                 priority := p2, blocker := some 1 })], last := 6 } }

/-- The two moves. -/
def mutualMove1 (p : Nat) : Move := { loweringMove {} with state := .active, phase := some .claimDest, priority := p, blocker := some 2 }
def mutualMove2 (p : Nat) : Move :=
  { loweringMove {} with number := 6, coil := some (idOf 2), dest := .slot (bot 6), state := .active, phase := some .claimDest, crane := some .c2
                         priority := p, blocker := some 1 }

theorem mutual_waits (b : Bool) (p q : Nat) :
    mutualWait (bothWait b p q) .c1 .c2 (mutualMove1 p) (mutualMove2 q) ⟨5, 0, 9250, 2, 0, 1⟩ ⟨6, 0, 10000, 1, 0, 2⟩ :=
  ⟨rfl, rfl, rfl, rfl, rfl, rfl, rfl⟩

theorem mutual_waits' (b : Bool) (p q : Nat) :
    mutualWait (bothWait b p q) .c2 .c1 (mutualMove2 q) (mutualMove1 p) ⟨6, 0, 10000, 1, 0, 2⟩ ⟨5, 0, 9250, 2, 0, 1⟩ :=
  ⟨rfl, rfl, rfl, rfl, rfl, rfl, rfl⟩

theorem wit_MutualWaitsGiveWay :
    ((bothWait true 5 5).hookCoil .c1 ≠ none ∧ (bothWait true 5 5).hookCoil .c2 ≠ none)
      ∧ (yieldsTo (bothWait false 3 5) .c1 .c2 (mutualMove1 3) (mutualMove2 5) ∧ (bothWait false 3 5).hookCoil .c1 = none)
      ∧ (yieldsTo (bothWait false 5 5) .c2 .c1 (mutualMove2 5) (mutualMove1 5) ∧ (bothWait false 5 5).hookCoil .c2 = none)
      ∧ (yieldsTo (bothWait true 5 3) .c2 .c1 (mutualMove2 3) (mutualMove1 5)
        ∧ (bothWait true 5 3).moveCoil (mutualMove2 3) = some { coilAt 2 (.hook .c2) with active := some 6 }
        ∧ (bothWait true 5 3).slot (bot 6) = some (.reservedIn 6) ∧ (bothWait true 5 3).moves.queue = []
        ∧ (bothWait true 5 3).autoSlot (coilAt 2 (.hook .c2)).load ((bothWait true 5 3).craneX .c2, (bothWait true 5 3).craneY .c2)
            { interval := some ((bothWait true 5 3).westBound .c2, (bothWait true 5 3).eastBound .c2) } = some (bot 1)
        ∧ clearWay (bothWait true 5 3) .c2 8400 ∧ ((bothWait true 5 3).cranes.get .c2).order = none)
      ∧ yieldsTo (bothWait true 3 5) .c1 .c2 (mutualMove1 3) (mutualMove2 5)
        ∧ (bothWait true 3 5).autoSlot (coilAt 1 (.hook .c1)).load ((bothWait true 3 5).craneX .c1, (bothWait true 3 5).craneY .c1)
            { interval := some ((bothWait true 3 5).westBound .c1, (bothWait true 3 5).eastBound .c1) } = none := by
  refine ⟨⟨by decide +kernel, by decide +kernel⟩, ⟨.inr ⟨by decide +kernel, .inl (by decide)⟩, by decide +kernel⟩,
    ⟨.inr ⟨by decide +kernel, .inr ⟨rfl, by decide⟩⟩, by decide +kernel⟩,
    ⟨.inr ⟨by decide +kernel, .inl (by decide)⟩, by decide +kernel, by decide +kernel, rfl, by decide +kernel, by unfold clearWay; decide +kernel, rfl⟩,
    .inr ⟨by decide +kernel, .inl (by decide)⟩, by decide +kernel⟩

/-! ### Samples of a session -/

/-- Crane 1 weighing with a window as given. -/
def weighingWith (win : List Kg) : State :=
  { weighing with
    runway := { weighing.runway with claims := weighing.runway.claims.set .c1 (some ⟨0, 1550, .stationary⟩) }
    weighing := { weighing.weighing with cranes := (
      weighing.weighing.cranes.set .c1 { session := some { sessionOf .hook .window with move := some 5, window := win } }) } }

/-- A status of crane 1 with a net load. -/
def loadStatus (net : Int) : Status := { statusAt 700 300 with c1 := 1500000 + 500 * net, c2 := 1500000 + 500 * net, hook := .gripped }

/-- The state with that status in the record of crane 1. -/
def weighed (win : List Kg) (net : Int) : State :=
  { weighingWith win with cranes := ((weighingWith win).cranes.set .c1
      { tookStatus ((weighingWith win).cranes.get .c1) (loadStatus net) 0 with claimLatch := false }) }

theorem window_settled (v : Kg) : (entered 8 (List.replicate 7 v) v = List.replicate 8 v) ∧ settled 8 40 (List.replicate 8 v) := by
  refine ⟨rfl, rfl, fun a ha b hb => ?_⟩
  rw [List.eq_of_mem_replicate ha, List.eq_of_mem_replicate hb]; simp

theorem wit_HookSessionSamples :
    ((weighingWith []).quiet ∧ alone (weighingWith []) .c1 ∧ (weighingWith []).runway.claims.get .c1 = some ⟨0, 1550, .stationary⟩
        ∧ plainReading (entry 650) (loadStatus 10000) ∧ netOf (entry 650) (loadStatus 10000) = 10000
        ∧ ¬ settled 8 40 (entered 8 [] 10000))
      ∧ (windowResult 10 8 (List.replicate 8 10000) = 10000 ∧ (500 : Int) ≤ 10000 ∧ (10000 : Kg) ≤ (entry 650).swl
        ∧ clearWay (weighed (List.replicate 7 10000) 10000) .c1 8400)
      ∧ (windowResult 10 8 (List.replicate 8 490) = 490 ∧ (490 : Kg) < 500 ∧ netOf (entry 650) (loadStatus 490) = 490)
      ∧ windowResult 10 8 (entered 8 (List.replicate 7 35040) 35000) = 35040 ∧ settled 8 40 (entered 8 (List.replicate 7 35040) 35000)
        ∧ netOf (entry 650) (loadStatus 35000) = 35000 ∧ plainReading (entry 650) (loadStatus 35000) ∧ ((entry 650).swl : Int) < 35040 := by
  refine ⟨⟨⟨⟨rfl, fun b => by cases b <;> rfl⟩, fun c => by cases c <;> rfl, rfl⟩, ?_, rfl,
      ⟨by decide +kernel, by decide +kernel, by decide +kernel, by decide +kernel⟩, by decide +kernel, fun h => ?_⟩,
    ⟨by decide +kernel, by decide, by decide +kernel, by unfold clearWay; decide +kernel⟩, ⟨by decide +kernel, by decide, by decide +kernel⟩,
    by decide +kernel, ⟨by decide +kernel, by decide +kernel⟩, by decide +kernel,
    ⟨by decide +kernel, by decide +kernel, by decide +kernel, by decide +kernel⟩, by decide +kernel⟩
  · intro d hd; cases d <;> first | exact absurd rfl hd | rfl
  · exact absurd h.1 (by decide)

/-- A scale READY at bay 1 with a session in WINDOW, its window as given, over a state. -/
def weighingBay (s : State) (k : SessionKind) (win : List Kg) (entry : Option Nat := none) : State :=
  withScale s .b1 { warm := 5, state := .ready, trim := 20, session := some { sessionOf k .window with window := win, entry := entry } }

/-- A visit, tared at 9,000 kg, with one entry. -/
def plannedVisit (st : VisitState) (es : EntryState) : Visit :=
  { visitA st with
    tare := some (9000, 0), lastGross := some 9000
    cradles := [{ d := 610, maxWeight := 30000, maxOd := 2000, state := .reserved 5 }]
    plan := [{ coil := idOf 1, cradle := 1, move := 5, state := es }] }

/-- The queued TO_TRUCK move of that entry. -/
def toTruckMove : Move :=
  { number := 5, kind := .toTruck, origin := .plan, coil := some (idOf 1), source := some (.slot (bot 3)), dest := .cradle .b1 1, priority := 5, created := 0 }

/-- A PAUSED visit with that move. -/
def rechecking : State :=
  withVisit { queued with
    coils := [(1, { coilAt 1 (.slot (bot 3)) with active := some 5, visit := some .b1 })]
    moves := { table := [(0, toTruckMove)], last := 5, queue := [5] } } .b1 (some (plannedVisit .paused .planned))

/-- The TO_TRUCK move given back to the queue whose grip was reported afterwards: QUEUED, its coil on the hook of crane 1; with some rows protected. -/
def returnedGripped (protect : List Nat) : State :=
  { rechecking with
    coils := [(1, { coilAt 1 (.hook .c1) with active := some 5, visit := some .b1 })]
    cranes := rechecking.cranes.set .c1 { inAt 700 300 with service := .out }
    yard := { protect := protect }
    moves := { table := [(0, { toTruckMove with phase := some .hoist })], last := 5, queue := [5] } }

def recheckedReturned (protect : List Nat) : Work := (Work.start (returnedGripped protect)).recheckOne 5

/-- R169 (2): at a recheck failure that move gives up its cradle and takes a slot; with no slot left it is FAULTED by 3-03. -/
theorem test_recheck_diverts_returned :
    ((recheckedReturned []).findMove 5).map (fun m => (m.state, m.crane, m.dest)) = some (.queued, none, .slot (bot 1))
      ∧ (recheckedReturned []).slot (bot 1) = some (.reservedIn 5) ∧ (recheckedReturned []).moves.queue = [5]
      ∧ ((recheckedReturned []).bays.b1.visit.map fun v => (v.cradles.map (·.state), v.plan.map (·.state))) = some ([.free], [.withdrawn])
      ∧ ((recheckedReturned [7, 8]).findMove 5).map (fun m => (m.state, m.dest, m.fault.map (·.code))) = some (.faulted, .auto, some 3)
      ∧ (recheckedReturned [7, 8]).moves.queue = [] := by
  decide +kernel

theorem wit_BaySessionResults :
    (bayKg bayA 5000000 4020000 0 0 = 9020 ∧ (∀ c ∈ [(5000000 : Int), 4020000, 0, 0], c ≠ 8388607 ∧ c ≠ -8388608)
        ∧ (9020 : Int) - 20 ≤ bayA.capacity ∧ ¬ settled 8 40 (entered 8 [] 9000)
        ∧ windowResult 20 8 (List.replicate 8 9000) = 9000 ∧ settled 8 40 (List.replicate 8 9000))
      ∧ ((weighingBay (up .run) .zero []).layout.committed.bays.get .b1 = some bayA ∧ ((weighingBay (up .run) .zero []).bays.get .b1).waiting = []
        ∧ windowResult 20 8 (List.replicate 8 1200) = 1200 ∧ |(1200 : Int)| ≤ (bayA.capacity : Int) / 50
        ∧ windowResult 20 8 (List.replicate 8 1220) = 1220 ∧ (bayA.capacity : Int) / 50 < |(1220 : Int)|)
      ∧ ((9000 : Kg) ≤ (visitA .taring).gMax ∧ ((visitA .taring).gMax : Int) < 40020)
      ∧ (compared rechecking (plannedVisit .paused .planned) 9000 9000 = ⟨9000, 9000, 45⟩ ∧ |(9000 : Int) - 9000| ≤ 45 ∧ (45 : Int) < |(9060 : Int) - 9000|)
      ∧ ((rechecking.bays.get .b1).visit = some (plannedVisit .paused .planned) ∧ rechecking.findMove 5 = some toTruckMove
        ∧ rechecking.findCoil (idOf 1) = some { coilAt 1 (.slot (bot 3)) with active := some 5, visit := some .b1 }
        ∧ rechecking.slot (bot 3) = some (.reservedOut 5 (idOf 1))
        ∧ ∀ w ∈ rechecking.moves.table.vals, 5 ∉ w.waits ∧ w.digFor ≠ some 5)
      ∧ ((weighingBay (scaleReady (up .run)) .setdown [] (some 1)).bays.get .b1).inPosition = true
        ∧ (plannedVisit .loading .onTruck).plan[0]? = some { coil := idOf 1, cradle := 1, move := 5, state := .onTruck } := by
  refine ⟨⟨by decide +kernel, by decide, by decide +kernel, fun h => absurd h.1 (by decide), by decide +kernel, (window_settled 9000).2⟩,
    ⟨rfl, rfl, by decide +kernel, by decide +kernel, by decide +kernel, by decide +kernel⟩, ⟨by decide +kernel, by decide +kernel⟩,
    ⟨by decide +kernel, by decide, by decide⟩, ⟨rfl, by decide +kernel, by decide +kernel, by decide +kernel, by decide +kernel⟩, rfl, rfl⟩


end Sys2Proof.Tests
end

/-! PROOFS. Where the slots of a row stand (R5), and that slot costs and travel targets are taken from there. -/

namespace Sys2Proof.Machine

/-! ### The position of a slot -/

/-- R5: bottom position `p` is `p - 1` pitches from the origin of its row. -/
theorem RowEntry.slotY_bottom (e : RowEntry) (p : Nat) : e.slotY .bottom p = (e.y0 : Int) + ((p : Int) - 1) * e.pitch :=
  Int.add_zero _

/-- R5: a top position is half a pitch, rounded down, beyond the bottom position of its number. -/
theorem RowEntry.slotY_top (e : RowEntry) (p : Nat) : e.slotY .top p = e.slotY .bottom p + ((e.pitch / 2 : Nat) : Int) := by
  rw [slotY_bottom]; rfl

theorem RowEntry.slotY_bottom_succ (e : RowEntry) (p : Nat) : e.slotY .bottom (p + 1) = e.slotY .bottom p + e.pitch := by
  rw [slotY_bottom, slotY_bottom]; push_cast; ring

/-- R5: a top position is midway between its two supports; an odd pitch takes it half a centimetre toward the first of them. -/
theorem RowEntry.two_mul_slotY_top (e : RowEntry) (p : Nat) :
    2 * e.slotY .top p = e.slotY .bottom p + e.slotY .bottom (p + 1) - ((e.pitch % 2 : Nat) : Int) := by
  have half : 2 * ((e.pitch / 2 : Nat) : Int) + ((e.pitch % 2 : Nat) : Int) = e.pitch := by omega
  rw [slotY_top, slotY_bottom_succ]
  linear_combination half

theorem Image.slotPos_of_row {img : Image} {a : SlotAddr} {e : RowEntry} (h : img.rows.get? a.row = some e) :
    img.slotPos a = some ((e.x : Int), e.slotY a.tier a.pos) := by
  simp [Image.slotPos, Image.row, h]

/-! ### What is measured from it -/

/-- R43: a slot costs the way from the origin to its position, along the runway and across it. -/
theorem slotCost_of_slotPos {img : Image} {a : SlotAddr} {e : RowEntry} {x y : Cm} (o : Cm × Cm) (h : img.rows.get? a.row = some e)
    (hpos : img.slotPos a = some (x, y)) : slotCost o e a = (x - o.1).natAbs + (y - o.2).natAbs := by
  rw [Image.slotPos_of_row h] at hpos
  obtain ⟨rfl, rfl⟩ : (e.x : Int) = x ∧ e.slotY a.tier a.pos = y := by simpa using hpos
  rfl

section
variable (s : State) (a : SlotAddr)

@[simp] theorem State.placePos_slot : s.placePos (.slot a) = s.layout.committed.slotPos a := rfl

@[simp] theorem State.destPos_slot (c : Option CraneId) : s.destPos c (.slot a) = s.layout.committed.slotPos a := rfl

/-- R99: a move from a slot travels to the slot's position for its grip. -/
theorem State.phaseTarget_travelSrc_slot {m : Move} (h : m.source = some (.slot a)) :
    s.phaseTarget m .travelSrc = s.layout.committed.slotPos a := by
  simp [State.phaseTarget, h]

/-- R99: a move to a slot travels to the slot's position for its set-down. -/
theorem State.phaseTarget_travelDest_slot {m : Move} (h : m.dest = .slot a) :
    s.phaseTarget m .travelDest = s.layout.committed.slotPos a := by
  simp [State.phaseTarget, h]

end

/-- Settles O52: the positions are those of the row's entry (R5), and costs and travel targets are read off them. -/
theorem slotPositions : Obligations.SlotPositions := by
  refine ⟨fun img r p e he => ?positions, fun _ o _ _ _ _ he hpos => slotCost_of_slotPos o he hpos, fun s m c a =>
    ⟨s.placePos_slot a, s.destPos_slot a c, s.phaseTarget_travelSrc_slot a, s.phaseTarget_travelDest_slot a⟩⟩
  have hslot (t : Tier) (q : Nat) : img.slotPos ⟨r, t, q⟩ = some ((e.x : Int), e.slotY t q) := Image.slotPos_of_row he
  refine ⟨?bottom, ?top, ?midway⟩
  case bottom => rw [hslot, e.slotY_bottom]
  case top => rw [hslot, e.slotY_top, e.slotY_bottom]
  case midway =>
    intro y y1 y2 x htop hbot hnext
    simp only [hslot, Option.some.injEq, Prod.mk.injEq] at htop hbot hnext
    obtain ⟨-, rfl⟩ := htop
    obtain ⟨-, rfl⟩ := hbot
    obtain ⟨-, rfl⟩ := hnext
    exact e.two_mul_slotY_top p

end Sys2Proof.Machine

/-! PROOFS. Rounding halves away from zero (0.5 (7)), and the conversion of a channel by it (R58). -/

namespace Sys2Proof.Machine

/-! ### round_away -/

section
variable {num : Int} {den : Nat}

theorem roundAway_of_nonneg (hnum : 0 ≤ num) : roundAway num den = (2 * num + den) / (2 * den) := by
  have habs : (num.natAbs : Int) = num := Int.natAbs_of_nonneg hnum
  simp [roundAway, hnum.not_gt, habs]

/-- Rounding is odd: a negative quotient is rounded as its absolute value is. -/
theorem roundAway_neg (num : Int) (den : Nat) : roundAway (-num) den = -roundAway num den := by
  have hzero : den / (2 * den) = 0 := by
    obtain rfl | hden := den.eq_zero_or_pos
    · rfl
    · exact Nat.div_eq_of_lt (by omega)
  obtain hneg | rfl | hpos := lt_trichotomy num 0
  · simp [roundAway, hneg, hneg.le]
  · simp only [roundAway, Int.neg_zero, Int.natAbs_zero, Nat.mul_zero, Nat.zero_add, hzero]; rfl
  · simp [roundAway, hpos, hpos.le]

/-- A quotient that is not negative is rounded up from one half, and down below it. -/
theorem roundAway_error_of_nonneg (hden : 0 < den) (hnum : 0 ≤ num) :
    -(den : Int) < 2 * (den * roundAway num den - num) ∧ 2 * (den * roundAway num den - num) ≤ den := by
  have hpos : (0 : Int) < 2 * den := by omega
  have hlow := Int.mul_ediv_self_le (x := 2 * num + den) hpos.ne'
  have hhigh := Int.lt_mul_ediv_self_add (x := 2 * num + den) hpos
  rw [← roundAway_of_nonneg hnum] at hlow hhigh
  constructor <;> linarith

/-- A quotient that is not positive is rounded down from one half, and up above it. -/
theorem roundAway_error_of_nonpos (hden : 0 < den) (hnum : num ≤ 0) :
    -(den : Int) ≤ 2 * (den * roundAway num den - num) ∧ 2 * (den * roundAway num den - num) < den := by
  obtain ⟨hlow, hhigh⟩ := roundAway_error_of_nonneg hden (Int.neg_nonneg.mpr hnum)
  rw [roundAway_neg] at hlow hhigh
  constructor <;> linarith

/-- The rounded quotient is within one half of the exact one. -/
theorem two_mul_abs_roundAway_error_le (hden : 0 < den) (num : Int) : 2 * |den * roundAway num den - num| ≤ den := by
  suffices h : -(den : Int) ≤ 2 * (den * roundAway num den - num) ∧ 2 * (den * roundAway num den - num) ≤ den by
    have habs := abs_le.mpr h
    rwa [abs_mul, abs_two] at habs
  obtain hnum | hnum := le_total 0 num
  · obtain ⟨hlow, hhigh⟩ := roundAway_error_of_nonneg hden hnum
    exact ⟨hlow.le, hhigh⟩
  · obtain ⟨hlow, hhigh⟩ := roundAway_error_of_nonpos hden hnum
    exact ⟨hlow, hhigh.le⟩

/-- A quotient half way between two integers is rounded to the one further from zero. -/
theorem abs_le_abs_roundAway_of_tie (hden : 0 < den) (htie : 2 * |den * roundAway num den - num| = den) :
    |num| ≤ |den * roundAway num den| := by
  obtain hnum | hnum := le_total 0 num
  · obtain ⟨hlow, -⟩ := roundAway_error_of_nonneg hden hnum
    have hup : 0 ≤ den * roundAway num den - num := by
      by_contra! h
      rw [abs_of_neg h] at htie
      linarith
    exact abs_le_abs_of_nonneg hnum (by linarith)
  · obtain ⟨-, hhigh⟩ := roundAway_error_of_nonpos hden hnum
    have hdown : den * roundAway num den - num ≤ 0 := by
      by_contra! h
      rw [abs_of_pos h] at htie
      linarith
    exact abs_le_abs_of_nonpos hnum (by linarith)

/-- A quotient that is an integer is not changed. -/
theorem roundAway_mul_self (hden : 0 < den) (k : Int) : roundAway (k * den) den = k := by
  have hpos : (0 : Int) < den := by exact_mod_cast hden
  have herror : 2 * (den * |roundAway (k * den) den - k|) ≤ (den : Int) := by
    have h := two_mul_abs_roundAway_error_le hden (k * den)
    rwa [mul_comm k, ← mul_sub, abs_mul, abs_of_pos hpos, mul_comm (den : Int) k] at h
  have hsmall : |roundAway (k * den) den - k| < 1 := by
    by_contra! h
    have := mul_le_mul_of_nonneg_left h hpos.le
    linarith
  exact Int.sub_eq_zero.mp (Int.abs_lt_one_iff.mp hsmall)

end

/-! ### A channel -/

theorem channelGrams_of_eq_mul {c z k : Int} {span : Nat} (h : (c - z) * span = k * 65536) : channelGrams c z span = k := by
  rw [channelGrams, h]
  exact roundAway_mul_self (den := 65536) (by decide) k

/-- R58: counts of 24 bits differ by less than 2^24. -/
theorem abs_count_sub_zero_le {c z : Int} (hc : -8388608 ≤ c ∧ c ≤ 8388607) (hz : -8388608 ≤ z ∧ z ≤ 8388607) :
    |c - z| ≤ 16777215 :=
  abs_le.mpr (by omega)

/-- R58: the product of such a difference and the greatest span stays below 2^47. -/
theorem abs_mul_span_lt {d : Int} {span : Nat} (hd : |d| ≤ 16777215) (hspan : span ≤ 4000000) : |d * span| < 2 ^ 47 :=
  calc |d * span| = |d| * span := by rw [abs_mul, Nat.abs_cast]
    _ ≤ 16777215 * 4000000 := mul_le_mul hd (by exact_mod_cast hspan) (by positivity) (by decide)
    _ < 2 ^ 47 := by decide

/-- Settles O51: a channel's grams are one `roundAway` of the exact product (R58), a whole quotient is not rounded, and the sum of the channels
is rounded to kilograms and clamped (R59). -/
theorem channelConversion : Obligations.ChannelConversion := by
  refine ⟨fun c z span => ⟨?nearest, ?tie, ?range⟩, fun c z => ⟨?span65536, ?span262144⟩, ?half, fun l => rfl⟩
  case nearest => exact two_mul_abs_roundAway_error_le (den := 65536) (by decide) _
  case tie => exact abs_le_abs_roundAway_of_tie (den := 65536) (by decide)
  case range =>
    intro hc hz
    have hd := abs_count_sub_zero_le hc hz
    exact ⟨hd, abs_mul_span_lt hd⟩
  case span65536 => exact channelGrams_of_eq_mul rfl
  case span262144 => exact channelGrams_of_eq_mul (by push_cast; ring)
  case half => decide

end Sys2Proof.Machine
